-- ==== Sys2Proof/Word.lean ====
section
/-! DEFINITION. The two word types of the part (spec/00_scope.md, 2.2): a byte is 8 bits, a word is 16 bits. -/

namespace Sys2Proof

/-- A byte is 8 bits (00, 2.2). -/
abbrev Byte := BitVec 8

/-- A word is 16 bits (00, 2.2). -/
abbrev Word := BitVec 16

end Sys2Proof
end

