-- ==== Sys2Proof/Syntax.lean ====
section
/-! DEFINITION. The commands of the part: one constructor for each row of spec/opcode_table.json. -/

namespace Sys2Proof

/-- The host ports (00, 2.1). -/
inductive Port where
  | a | b | c | d
  deriving DecidableEq, Repr

/-- A command or event of the part. Each constructor is one row of the opcode table, with the operands
that come from outside with the event. The parameters of a command that a unit takes stand in the
command in hand of the port (R175, R182), so such a row carries its port alone. -/
inductive Instr where
  /-- Power is applied; the levels of READY, WRITE PROTECT and the four INIT lines are those standing at
  the end of the reset (R95, R179). -/
  | powerOnReset (ready writeProtect initA initB initC initD : Bool)
  /-- The host bus INIT line of a port is asserted (R179). -/
  | initAsserted (p : Port)
  /-- The INIT line of a port is negated (R179). -/
  | initNegated (p : Port)
  /-- A write of the RESET word; the value is disregarded (R172, R179). -/
  | reset (p : Port) (value : Word)
  /-- A write of the GO word; the value is disregarded (R172, R173). -/
  | go (p : Port) (value : Word)
  /-- A write of a window word with no behaviour of its own, by its offset in the window (R172). -/
  | stagingWordWrite (p : Port) (offset : Nat) (value : Word)
  /-- A write of the status word (R177). -/
  | statusWordWrite (p : Port) (value : Word)
  /-- A write of the interrupt enable word (R151, R178). -/
  | interruptEnableWordWrite (p : Port) (value : Word)
  /-- A write of the window base word (R178). -/
  | windowBaseWordWrite (p : Port) (value : Word)
  /-- A read of response word 0 (R176). -/
  | responseWord0Read (p : Port)
  /-- A write of the COMPLETION POP word; the value is disregarded (R148). -/
  | completionPop (p : Port) (value : Word)
  /-- A write of the NOTICE POP word; the value is disregarded (R160). -/
  | noticePop (p : Port) (value : Word)
  /-- The Request Table takes the READ in hand (R59). -/
  | read (p : Port)
  /-- The Request Table takes the WRITE in hand (R59). -/
  | write (p : Port)
  /-- The Request Table takes the VERIFY in hand (R59). -/
  | verify (p : Port)
  /-- The Request Table takes the FORMAT TRACK in hand (R59). -/
  | formatTrack (p : Port)
  /-- The Request Table takes the CANCEL in hand (R74). -/
  | cancel (p : Port)
  /-- The Lock Unit takes the ACQUIRE in hand (R21). -/
  | acquire (p : Port)
  /-- The Lock Unit takes the RENEW in hand (R27). -/
  | renew (p : Port)
  /-- The Lock Unit takes the RELEASE in hand (R31). -/
  | release (p : Port)
  /-- The Lock Unit takes the FORCE RELEASE in hand (R33). -/
  | forceRelease (p : Port)
  /-- The Lock Unit takes the WITHDRAW in hand (R51). -/
  | withdraw (p : Port)
  /-- The Watch List takes the WATCH in hand (R155). -/
  | watch (p : Port)
  /-- The Watch List takes the UNWATCH in hand (R156). -/
  | unwatch (p : Port)
  /-- The Shared Settings take the CLAIM TOKEN in hand (R165). -/
  | claimToken (p : Port)
  /-- The Shared Settings take the RELEASE TOKEN in hand (R166). -/
  | releaseToken (p : Port)
  /-- The Shared Settings take the SET SETTING in hand (R167). -/
  | setSetting (p : Port)
  /-- The Shared Settings take the READ SETTINGS in hand (R170). -/
  | readSettings (p : Port)
  /-- The port takes a command in hand whose code names no command (R175). -/
  | unknownCommand (p : Port)
  /-- The lease tick (R24). -/
  | leaseTick
  /-- The lease of one Lock Table entry reaches 0 (R28). -/
  | leaseExpiry (entry : Fin 16)
  /-- The wait remaining of the waiter in one slot reaches 0 (R48). -/
  | waitDenial (slot : Fin 8)
  /-- A due posting of a port is taken (R146). -/
  | posting (p : Port)
  /-- The Watch List takes the oldest write report (R158). -/
  | writeReport
  /-- READY rises; the WRITE PROTECT level stands as given from this event on (R96). -/
  | risingReady (writeProtect : Bool)
  /-- READY falls (R99). -/
  | fallingReady (writeProtect : Bool)
  /-- An INDEX pulse (R9, R10). -/
  | index (writeProtect : Bool)
  /-- A BLOCK MARK pulse (R9, R10). -/
  | blockMark (writeProtect : Bool)
  /-- The header field after a mark ends, with the bytes the read data stream delivered for it, six when
  it is complete (R14, R104). -/
  | headerRead (writeProtect : Bool) (field : List Byte)
  /-- The data field of the current block ends, with the bytes the read data stream delivered for it and
  its check word, 514 when it is complete; disregarded while the part records (R14, R107). -/
  | dataFieldEnd (writeProtect : Bool) (field : List Byte)
  /-- A SEEK DONE pulse (R11). -/
  | seekDone (writeProtect : Bool)
  /-- The positioning timer reaches its limit (R97, R101, R102). -/
  | positioningTimeLimit
  /-- The settle timer expires (R101). -/
  | settleExpiry
  /-- The fault-hold timer expires (R98). -/
  | faultHoldExpiry
  /-- The host bus of a port grants the engine (R135). -/
  | busGrant (p : Port)
  /-- A burst of a port's engine ends; the words are those host memory delivered in a load burst, and are
  disregarded for a drain burst (R135). -/
  | burstEnd (p : Port) (words : Vector Word 16)
  /-- The host-bus timer of a port's engine expires (R137). -/
  | hostBusTimeout (p : Port)
  deriving DecidableEq, Repr

end Sys2Proof
end

