-- ==== Sys2Proof/Decode.lean ====
section
/-! DEFINITION. The command that a word of the opcode table spells. The table gives no bits for any of its 47
rows (no row has a fixed pattern or a field), so no word spells a command. The codes in the staging words
(R182) are read by Machine/Operands.lean from the command in hand, as the part reads them. -/

namespace Sys2Proof

/-- The command a word of the table's bits spells: none, since no row of the table gives bits. -/
def decodeTableWord (_nbits _w : Nat) : Option Instr :=
  none

end Sys2Proof
end

