-- ==== Sys2Proof/Config.lean ====
section
/-! DEFINITION. The fixed numbers of the part: geometry, capacities and the time limits that are not settings.
The spec leaves no value of an operation undefined, so there is no free value here. -/

namespace Sys2Proof.Config

/-- Blocks on a track (R1). -/
def blocksPerTrack : Nat := 12

/-- Blocks on a cylinder, two heads of 12 blocks (R1). -/
def blocksPerCylinder : Nat := 24

/-- The highest block address (R1). -/
def lastBlock : Nat := 5759

/-- The highest cylinder (R1). -/
def lastCylinder : Nat := 239

/-- Entries of the Lock Table (R15). -/
def lockEntries : Nat := 16

/-- Slots of the Lock Wait Queue (R40). -/
def waitSlots : Nat := 8

/-- Entries of the Request Table (R55). -/
def requestEntries : Nat := 32

/-- The most blocks of one request (R59, check 1). -/
def maxCount : Nat := 64

/-- The most buffers one request may hold (R125). -/
def buffersPerRequest : Nat := 3

/-- Buffers of the pool (R123). -/
def bufferCount : Nat := 6

/-- Records a completion queue holds (R144). -/
def completionCapacity : Nat := 8

/-- Notices a notice queue holds (R159). -/
def noticeCapacity : Nat := 4

/-- Watch slots of a port (R154). -/
def watchSlots : Nat := 4

/-- The pass count at which the age override applies (R84). -/
def ageLimit : Nat := 16

/-- Bytes of a data field without its check word (R5). -/
def dataBytes : Nat := 512

/-- Host words of a block (R5). -/
def blockWords : Nat := 256

/-- Host words of a burst (R135). -/
def burstWords : Nat := 16

/-- One above the highest host address (R59, check 3). -/
def hostAddressLimit : Nat := 16777216

/-- The most entries the four quotas may share (R168). -/
def quotaTotal : Nat := 32

/-- The positioning limit of a SEEK, 1 s, in milliseconds (R11). -/
def seekLimit : Nat := 1000

/-- The positioning limit of a RECALIBRATE, 2 s, in milliseconds (R11). -/
def recalibrateLimit : Nat := 2000

end Sys2Proof.Config
end

