-- ==== Sys2Proof/Machine/State.lean ====
section
/-! DEFINITION. The state of the part, as plain data: every register, table, queue, buffer, counter, mode and line
that spec/ names, grouped by the unit that owns it (00, Table 1-1), the queue of commands that wait, the
state after reset, and the one named update of each field. -/

namespace Sys2Proof.Machine

/-- One value for each host port. -/
structure PortMap (α : Type) where
  a : α
  b : α
  c : α
  d : α
  deriving DecidableEq, Repr

/-- The value of port `p`. -/
def PortMap.get {α : Type} (m : PortMap α) : Port → α
  | .a => m.a
  | .b => m.b
  | .c => m.c
  | .d => m.d

/-- The map with the value of port `p` replaced. -/
def PortMap.set {α : Type} (m : PortMap α) (p : Port) (v : α) : PortMap α :=
  match p with
  | .a => { m with a := v }
  | .b => { m with b := v }
  | .c => { m with c := v }
  | .d => { m with d := v }

/-- The same value for every port. -/
def PortMap.all {α : Type} (v : α) : PortMap α := ⟨v, v, v, v⟩

/-- The map with `f` applied at every port. -/
def PortMap.map {α β : Type} (f : α → β) (m : PortMap α) : PortMap β := ⟨f m.a, f m.b, f m.c, f m.d⟩

/-- An extent: the block addresses from the first to the last, both included (R1). -/
structure Extent where
  first : Nat
  last : Nat
  deriving DecidableEq, Repr

/-! ### The Lock Unit (chapters 2 and 3) -/

/-- The mode of a lock (R15). -/
inductive Mode where
  | shared | exclusive
  deriving DecidableEq, Repr

/-- What a lock or a waiter claims: its port, extent and mode (R15, R40). -/
structure Lock where
  owner : Port
  extent : Extent
  mode : Mode
  deriving DecidableEq, Repr

/-- Whether the grant of a HELD lock has been reported to its owner, and if so the lease remaining in
ticks, `none` for NO LEASE (R15, R25). -/
inductive Grant where
  | unreported
  | reported (lease : Option Nat)
  deriving DecidableEq, Repr

/-- The end kind of an ENDED-REPORT-PENDING entry, and the cause in a lock-cessation report (R15, R29). -/
inductive EndKind where
  | expired | forced
  deriving DecidableEq, Repr

/-- The state of a Lock Table entry, with the fields present in it (R15, R16). -/
inductive LockState where
  | free
  | held (lock : Lock) (grant : Grant)
  | ended (lock : Lock) (kind : EndKind)
  deriving DecidableEq, Repr

/-- A Lock Table entry; the generation is kept in every state (R15). -/
structure LockEntry where
  generation : Nat
  state : LockState
  deriving DecidableEq, Repr

/-- The name of a lock: an entry's index with a generation (R17). -/
structure Handle where
  index : Nat
  generation : Nat
  deriving DecidableEq, Repr

/-- The state of a waiter; the wait remaining in ticks is `none` for UNLIMITED (R40). -/
inductive WaiterState where
  | waiting (remaining : Option Nat)
  | denied
  deriving DecidableEq, Repr

/-- A waiter of the Lock Wait Queue; its waiter number is the slot it occupies (R40). -/
structure Waiter where
  slot : Nat
  lock : Lock
  state : WaiterState
  deriving DecidableEq, Repr

/-! ### The Request Table (chapter 4) -/

/-- A transfer completion status (Table 8.1). -/
inductive Status where
  | ok | cancelled | lockLost | dataCheck | headerNotFound | positionError | defectiveBlock
  | writeProtected | driveNotReady | hostBusTimeout
  deriving DecidableEq, Repr

/-- The operation of a request with the parameters only it has: the host address of READ and WRITE, the
defect mask and fill byte of FORMAT (R55). -/
inductive Operation where
  | read (address : Nat)
  | write (address : Nat)
  | verify
  | format (defects : BitVec 12) (fill : Byte)
  deriving DecidableEq, Repr

/-- The state of a request entry that is not FREE, with the fields present in it (R55, R56). -/
inductive RequestState where
  | waiting
  | ready
  | active (stopPending : Option Status)
  | draining (outcome : Status) (failing : Option Nat)
  | held (outcome : Status) (failing : Option Nat)
  | orphaned
  deriving DecidableEq, Repr

/-- A Request Table entry that is not FREE (R55). -/
structure Request where
  index : Nat
  port : Port
  tag : BitVec 8
  operation : Operation
  first : Nat
  count : Nat
  dependencies : List Nat
  mediumCount : Nat
  blocksDone : Nat
  retriesUsed : Nat
  passCount : Nat
  state : RequestState
  deriving DecidableEq, Repr

/-! ### The Head Scheduler (chapter 5) -/

/-- The sweep direction (R80). -/
inductive Sweep where
  | higher | lower
  deriving DecidableEq, Repr

/-! ### The Medium Sequencer and the drive port (chapters 1 and 6) -/

/-- The states of the sequencer (R94). -/
inductive SequencerState where
  | offline | holding | recalibrating | idle | seeking | settling | searching | transferring | formatting
  deriving DecidableEq, Repr

/-- The positioning command in flight (R11). -/
inductive Positioning where
  | seek (cylinder : Nat)
  | recalibrate
  deriving DecidableEq, Repr

/-- The recovery field of the service record (R102). -/
inductive Recovery where
  | unused | recalibrateStep | reSeekStep | used
  deriving DecidableEq, Repr

/-- How far a FORMAT TRACK has come: waiting for INDEX, INDEX taken and the first mark awaited, the fields
of a block being written, or between two blocks (R118, R119). The model's own field. -/
inductive FormatPhase where
  | waitIndex | begun | writing | gap
  deriving DecidableEq, Repr

/-- The service record (Table 6.2), with two fields of the model's own: whether a header is being read
(its BLOCK MARK was taken in SEARCHING, R103) and the phase of a FORMAT TRACK. -/
structure Service where
  entry : Nat
  current : Nat
  target : Nat
  recovery : Recovery
  indexPasses : Nat
  retriesSpent : Nat
  written : Nat
  stopAsked : Bool
  orphan : Bool
  buffer : Option Nat
  headerReading : Bool
  phase : FormatPhase
  deriving DecidableEq, Repr

/-- The values of the Medium Sequencer (Table 6.1). UNKNOWN and a stopped timer are `none`; a running timer
holds the time it runs toward, in ms for positioning and settle and in s for the fault hold. -/
structure Sequencer where
  state : SequencerState
  believed : Option Nat
  head : Nat
  position : Option Nat
  outstanding : Option Positioning
  positioningTimer : Option Nat
  settleTimer : Option Nat
  faultHoldTimer : Option Nat
  service : Option Service
  deriving DecidableEq, Repr

/-- The lines of the drive port that are no value of the sequencer: READY and WRITE PROTECT as they stand,
WRITE GATE, and the bytes on the write data stream for the sector being recorded (R7, R8, R13). -/
structure DriveLines where
  ready : Bool
  writeProtect : Bool
  writeGate : Bool
  writeData : List Byte
  deriving DecidableEq, Repr

/-! ### The Buffer Pool and the port engines (chapter 7) -/

/-- The state of a buffer that is not FREE, with its data as host words. The words moved are the
number of words in LOADING, and a field in DRAINING-TO-HOST (R123, R124). -/
inductive BufferState where
  | filling
  | full (data : List Word)
  | draining (moved : Nat) (data : List Word)
  | loading (data : List Word)
  | loaded (data : List Word)
  | writing (data : List Word)
  deriving DecidableEq, Repr

/-- A buffer that is not FREE (R123). -/
structure Buffer where
  entry : Nat
  block : Nat
  state : BufferState
  deriving DecidableEq, Repr

/-- The states of a port engine (R132). -/
inductive EngineState where
  | idle | requesting | moving
  deriving DecidableEq, Repr

/-- A prefetch entry with its prefetch next (R130). -/
structure Prefetch where
  entry : Nat
  next : Nat
  deriving DecidableEq, Repr

/-- The values of a port engine (Table 7.3), with the bus address of the first word of the burst (R134). -/
structure Engine where
  state : EngineState
  current : Option Nat
  withdrawn : Bool
  bufferBase : BitVec 8
  burstRegister : List Word
  burstAddress : BitVec 32
  timer : Option Nat
  prefetch : Option Prefetch
  waitingClaim : Option Nat
  givenUp : Option Nat
  deriving DecidableEq, Repr

/-! ### Completion records, interrupts, watches and notices (chapters 8 and 9) -/

/-- A completion record (R140). -/
inductive Record where
  | transferDone (tag : BitVec 8) (status : Status) (blocksDone retriesUsed : Nat) (failing : Option Nat)
  | lockGranted (handle : Handle)
  | lockDenied (waiter : Nat)
  | lockExpired (handle : Handle)
  | lockForced (handle : Handle)
  deriving DecidableEq, Repr

/-- An item of a pending-record list: a reference to its owner entry (R142). -/
inductive OwnerRef where
  | request (index : Nat)
  | lock (index : Nat)
  | waiter (slot : Nat)
  deriving DecidableEq, Repr

/-- The interrupt enables of a port (R151). -/
structure Enables where
  response : Bool
  completion : Bool
  notice : Bool
  deriving DecidableEq, Repr

/-- The kind of a notice and of a write report (R157, R158). -/
inductive WriteKind where
  | written | formatted
  deriving DecidableEq, Repr

/-- A notice (Table 9.1). -/
structure Notice where
  watch : Nat
  writer : Port
  extent : Extent
  kind : WriteKind
  deriving DecidableEq, Repr

/-- A notice queue with its NOTICE LOST flag (R159). -/
structure NoticeQueue where
  queue : List Notice
  lost : Bool
  deriving DecidableEq, Repr

/-- A write report (R157). -/
structure WriteReport where
  writer : Port
  extent : Extent
  kind : WriteKind
  deriving DecidableEq, Repr

/-! ### Shared Settings and the host port window (chapters 10 and 11) -/

/-- The shared settings (Table 10.1). -/
structure Settings where
  quota : PortMap Nat
  maintenance : PortMap Bool
  leaseLength : Nat
  retryCount : Nat
  settleTime : Nat
  faultHold : Nat
  hostBusTimeout : Nat
  deriving DecidableEq, Repr

/-- The window state: IDLE, or BUSY with the command in hand (R173). -/
inductive WindowState where
  | idle
  | busy (command : List Word)
  deriving DecidableEq, Repr

/-- The command window of a port: staging words, window state, response words, their flags, and the word
that the last read of response word 0 returned (R172, R176, R177). -/
structure Window where
  staging : List Word
  state : WindowState
  response : List Word
  responseReady : Bool
  commandOverrun : Bool
  readData : Word
  deriving DecidableEq, Repr

/-- The state of the part. -/
structure State where
  /-- The commands that wait, the first to be taken at the front. -/
  pending : List Instr
  windows : PortMap Window
  windowBase : PortMap (BitVec 8)
  initLine : PortMap Bool
  enables : PortMap Enables
  completions : PortMap (List Record)
  pendingRecords : PortMap (List OwnerRef)
  notices : PortMap NoticeQueue
  watches : PortMap (List (Option Extent))
  engines : PortMap Engine
  /-- The six buffers, `none` for FREE. -/
  buffers : List (Option Buffer)
  /-- The entries that are not FREE, in arrival order. -/
  requests : List Request
  /-- The 16 entries of the Lock Table. -/
  locks : List LockEntry
  /-- The occupied slots of the Lock Wait Queue, in arrival order. -/
  waiters : List Waiter
  sequencer : Sequencer
  drive : DriveLines
  sweep : Sweep
  /-- The write reports made and not yet taken, the oldest first. -/
  writeReports : List WriteReport
  settings : Settings
  token : Option Port
  deriving DecidableEq, Repr

/-- Why the part faults: it never does. The part has no fault; an event it cannot take is disregarded. -/
inductive Fault where
  deriving DecidableEq, Repr

/-- Why a command has no meaning. -/
inductive Refusal where
  /-- Raised by `exec` alone, for a row that has no meaning yet; safe. No row of the table is refused. -/
  | notModelled (mnemonic : String)
  deriving DecidableEq, Repr

/-- What a command answers. -/
abbrev Result := Host.Outcome State Fault Refusal

/-! ### The state after reset -/

/-- A window after power-on reset (R172). -/
def Window.reset : Window where
  staging := List.replicate 8 0
  state := .idle
  response := List.replicate 8 0
  responseReady := false
  commandOverrun := false
  readData := 0

/-- An engine after power-on reset (R132). DESIGN CHOICE: buffer base, burst register, burst address and
withdrawn are zero, which the spec does not say; unsafe (log 9). -/
def Engine.reset : Engine where
  state := .idle
  current := none
  withdrawn := false
  bufferBase := 0
  burstRegister := List.replicate 16 0
  burstAddress := 0
  timer := none
  prefetch := none
  waitingClaim := none
  givenUp := none

/-- The sequencer after power-on reset (R95). -/
def Sequencer.reset : Sequencer where
  state := .offline
  believed := none
  head := 0
  position := none
  outstanding := none
  positioningTimer := none
  settleTimer := none
  faultHoldTimer := none
  service := none

/-- The power-on values of the settings (Table 10.1). -/
def Settings.reset : Settings where
  quota := .all 8
  maintenance := .all false
  leaseLength := 50
  retryCount := 2
  settleTime := 4
  faultHold := 4
  hostBusTimeout := 50

/-- The part after power-on reset. DESIGN CHOICE: READY, WRITE PROTECT and the INIT lines, which are inputs,
stand negated; unsafe (log 5). -/
def State.reset : State where
  pending := []
  windows := .all .reset
  windowBase := .all 0
  initLine := .all false
  enables := .all ⟨false, false, false⟩
  completions := .all []
  pendingRecords := .all []
  notices := .all ⟨[], false⟩
  watches := .all [none, none, none, none]
  engines := .all .reset
  buffers := List.replicate Config.bufferCount none
  requests := []
  locks := List.replicate Config.lockEntries ⟨0, .free⟩
  waiters := []
  sequencer := .reset
  drive := ⟨false, false, false, []⟩
  sweep := .higher
  writeReports := []
  settings := .reset
  token := none

/-! ### The named update of each field -/

/-- The state with `pending` replaced. -/
def State.withPending (s : State) (v : List Instr) : State := { s with pending := v }

/-- The state with `windows` replaced. -/
def State.withWindows (s : State) (v : PortMap Window) : State := { s with windows := v }

/-- The state with `windowBase` replaced. -/
def State.withWindowBase (s : State) (v : PortMap (BitVec 8)) : State := { s with windowBase := v }

/-- The state with `initLine` replaced. -/
def State.withInitLine (s : State) (v : PortMap Bool) : State := { s with initLine := v }

/-- The state with `enables` replaced. -/
def State.withEnables (s : State) (v : PortMap Enables) : State := { s with enables := v }

/-- The state with `completions` replaced. -/
def State.withCompletions (s : State) (v : PortMap (List Record)) : State := { s with completions := v }

/-- The state with `pendingRecords` replaced. -/
def State.withPendingRecords (s : State) (v : PortMap (List OwnerRef)) : State := { s with pendingRecords := v }

/-- The state with `notices` replaced. -/
def State.withNotices (s : State) (v : PortMap NoticeQueue) : State := { s with notices := v }

/-- The state with `watches` replaced. -/
def State.withWatches (s : State) (v : PortMap (List (Option Extent))) : State := { s with watches := v }

/-- The state with `engines` replaced. -/
def State.withEngines (s : State) (v : PortMap Engine) : State := { s with engines := v }

/-- The state with `buffers` replaced. -/
def State.withBuffers (s : State) (v : List (Option Buffer)) : State := { s with buffers := v }

/-- The state with `requests` replaced. -/
def State.withRequests (s : State) (v : List Request) : State := { s with requests := v }

/-- The state with `locks` replaced. -/
def State.withLocks (s : State) (v : List LockEntry) : State := { s with locks := v }

/-- The state with `waiters` replaced. -/
def State.withWaiters (s : State) (v : List Waiter) : State := { s with waiters := v }

/-- The state with `sequencer` replaced. -/
def State.withSequencer (s : State) (v : Sequencer) : State := { s with sequencer := v }

/-- The state with `drive` replaced. -/
def State.withDrive (s : State) (v : DriveLines) : State := { s with drive := v }

/-- The state with `sweep` replaced. -/
def State.withSweep (s : State) (v : Sweep) : State := { s with sweep := v }

/-- The state with `writeReports` replaced. -/
def State.withWriteReports (s : State) (v : List WriteReport) : State := { s with writeReports := v }

/-- The state with `settings` replaced. -/
def State.withSettings (s : State) (v : Settings) : State := { s with settings := v }

/-- The state with `token` replaced. -/
def State.withToken (s : State) (v : Option Port) : State := { s with token := v }

end Sys2Proof.Machine
end

