-- ==== Sys2Proof/Machine/Medium.lean ====
section
/-! DEFINITION. The recorded medium as the part sees it: block addresses and extents, the check word, the header
field and the data field (chapter 1). -/

namespace Sys2Proof.Machine

/-! ### Block addresses (R1) -/

/-- The cylinder of a block address (R1). -/
def cylinderOf (block : Nat) : Nat := block / Config.blocksPerCylinder

/-- The head of a block address (R1). -/
def headOf (block : Nat) : Nat := block % Config.blocksPerCylinder / Config.blocksPerTrack

/-- The block number within its track of a block address (R1). -/
def blockOf (block : Nat) : Nat := block % Config.blocksPerTrack

/-- The block address of a block of a track (R1). -/
def blockAddress (cylinder head block : Nat) : Nat := (cylinder * 2 + head) * Config.blocksPerTrack + block

/-- Two extents overlap when they have at least one block address in common (R1). -/
def Extent.overlaps (x y : Extent) : Bool :=
  decide (x.first ≤ y.last) && decide (y.first ≤ x.last)

/-- The intersection of two overlapping extents (R1). -/
def Extent.intersection (x y : Extent) : Extent := ⟨max x.first y.first, min x.last y.last⟩

/-- Whether a block address lies in an extent (R1). -/
def Extent.contains (x : Extent) (block : Nat) : Bool :=
  decide (x.first ≤ block) && decide (block ≤ x.last)

/-- The last block of a request (R55). -/
def Request.last (r : Request) : Nat := r.first + r.count - 1

/-- The blocks of a request (R55). -/
def Request.extent (r : Request) : Extent := ⟨r.first, r.last⟩

/-! ### The check word (R6) -/

/-- One bit taken into the check register (R6). -/
def checkBit (register : Word) (bit : Bool) : Word :=
  if bit ^^ register.msb then (register <<< 1) ^^^ 0x1021 else register <<< 1

/-- One byte taken into the check register, most significant bit first (R6). -/
def checkByte (register : Word) (byte : Byte) : Word :=
  [7, 6, 5, 4, 3, 2, 1, 0].foldl (fun r i => checkBit r (byte.getLsbD i)) register

/-- The check word of a field: the register preset to FFFF hex with the bytes taken in order (R6). -/
def checkWord (bytes : List Byte) : Word := bytes.foldl checkByte 0xFFFF

/-- The check word as the two bytes written, high byte first (R6). -/
def checkBytes (bytes : List Byte) : List Byte :=
  [(checkWord bytes).extractLsb' 8 8, (checkWord bytes).extractLsb' 0 8]

/-- A field as it is written: its content bytes and their check word (R3, R5). -/
def withCheck (bytes : List Byte) : List Byte := bytes ++ checkBytes bytes

/-- Whether a field of `n` content bytes was read whole with a matching check word (R6, R14). -/
def fieldGood (n : Nat) (field : List Byte) : Bool :=
  decide (field.length = n + 2) && decide (field.drop n = checkBytes (field.take n))

/-! ### The header field (R3, R4) -/

/-- The content of a good header (R3). -/
structure Header where
  cylinder : Nat
  head : Nat
  block : Nat
  defective : Bool
  deriving DecidableEq, Repr

/-- The header field the part writes (R3, R4). -/
def headerField (cylinder head block : Nat) (defective : Bool) : List Byte :=
  withCheck [BitVec.ofNat 8 cylinder, BitVec.ofNat 8 head, BitVec.ofNat 8 block, if defective then 1 else 0]

/-- A header as read: absent on a header check error or an incomplete field; the block is DEFECTIVE when the
lowest bit of the flags byte is one (R3, R4, R14). -/
def readHeader (field : List Byte) : Option Header :=
  if fieldGood 4 field then
    match field with
    | c :: h :: b :: f :: _ => some ⟨c.toNat, h.toNat, b.toNat, f.getLsbD 0⟩
    | _ => none
  else none

/-! ### The data field (R5) -/

/-- The bytes of a block as host words: word n holds byte 2n in its low-order bits and byte 2n + 1 in its
high-order bits (R5). -/
def wordsOfBytes : List Byte → List Word
  | low :: high :: rest => (high ++ low : BitVec 16) :: wordsOfBytes rest
  | _ => []

/-- The bytes of host words, each low-order byte first (R5). -/
def bytesOfWords : List Word → List Byte
  | [] => []
  | w :: rest => w.extractLsb' 0 8 :: w.extractLsb' 8 8 :: bytesOfWords rest

/-- The data field the part writes for a buffer (R5). -/
def dataField (data : List Word) : List Byte := withCheck (bytesOfWords data)

/-- Whether a data field was read good (R5, R14). -/
def dataFieldGood (field : List Byte) : Bool := fieldGood Config.dataBytes field

/-- The host words of a data field read good (R5). -/
def dataFieldWords (field : List Byte) : List Word := wordsOfBytes (field.take Config.dataBytes)

/-- The fields FORMAT TRACK writes for one block of its track: the header with the flag of the defect mask,
and a data field of the fill byte (R4, R119). -/
def formatSector (cylinder head block : Nat) (defects : BitVec 12) (fill : Byte) : List Byte :=
  headerField cylinder head block (defects.getLsbD block) ++ withCheck (List.replicate Config.dataBytes fill)

end Sys2Proof.Machine
end

