-- ==== Sys2Proof/Machine/Operands.lean ====
section
/-! DEFINITION. The layouts of the host port window: the fields of a command in hand (R182), the response words
(R183), and the record and notice words (R184). -/

namespace Sys2Proof.Machine

/-! ### The fields of a command (R182, Table 11.2) -/

/-- Bits 7 to 0 of a word. -/
def lowByte (w : Word) : Byte := w.extractLsb' 0 8

/-- Staging word `n` of a command as copied at the GO (R173). -/
def commandWord (command : List Word) (n : Nat) : Word := command.getD n 0

/-- The command code, bits 7 to 0 of staging word 0 (R182). -/
def commandCode (command : List Word) : Byte := lowByte (commandWord command 0)

/-- The command codes of Table 11.2. -/
def codeRead : Byte := 0x01
/-- See `codeRead`. -/
def codeWrite : Byte := 0x02
/-- See `codeRead`. -/
def codeVerify : Byte := 0x03
/-- See `codeRead`. -/
def codeFormatTrack : Byte := 0x04
/-- See `codeRead`. -/
def codeCancel : Byte := 0x05
/-- See `codeRead`. -/
def codeAcquire : Byte := 0x10
/-- See `codeRead`. -/
def codeRenew : Byte := 0x11
/-- See `codeRead`. -/
def codeRelease : Byte := 0x12
/-- See `codeRead`. -/
def codeForceRelease : Byte := 0x13
/-- See `codeRead`. -/
def codeWithdraw : Byte := 0x14
/-- See `codeRead`. -/
def codeWatch : Byte := 0x20
/-- See `codeRead`. -/
def codeUnwatch : Byte := 0x21
/-- See `codeRead`. -/
def codeClaimToken : Byte := 0x30
/-- See `codeRead`. -/
def codeReleaseToken : Byte := 0x31
/-- See `codeRead`. -/
def codeSetSetting : Byte := 0x32
/-- See `codeRead`. -/
def codeReadSettings : Byte := 0x33

/-- The codes that name a command (Table 11.2). -/
def commandCodes : List Byte :=
  [codeRead, codeWrite, codeVerify, codeFormatTrack, codeCancel, codeAcquire, codeRenew, codeRelease,
    codeForceRelease, codeWithdraw, codeWatch, codeUnwatch, codeClaimToken, codeReleaseToken, codeSetSetting,
    codeReadSettings]

/-- The tag, bits 7 to 0 of staging word 1. -/
def tagOf (command : List Word) : BitVec 8 := lowByte (commandWord command 1)

/-- The host address, 24 bits: bits 15 to 0 from staging word 4 and bits 7 to 0 of staging word 5. -/
def hostAddressOf (command : List Word) : Nat :=
  (lowByte (commandWord command 5)).toNat * 65536 + (commandWord command 4).toNat

/-- A handle in bits 7 to 0 of staging word 1: index in bits 7 to 4, generation in bits 3 to 0. -/
def handleOf (command : List Word) : Handle :=
  ⟨((commandWord command 1).extractLsb' 4 4).toNat, ((commandWord command 1).extractLsb' 0 4).toNat⟩

/-- An extent in two staging words, the first block in word `n` and the last in the next. -/
def extentOf (command : List Word) (n : Nat) : Extent :=
  ⟨(commandWord command n).toNat, (commandWord command (n + 1)).toNat⟩

/-- A mode, 0 SHARED or 1 EXCLUSIVE, read from the whole word. -/
def modeOf (w : Word) : Option Mode :=
  if w = 0 then some .shared else if w = 1 then some .exclusive else none

/-- A transfer command with its parameters (04, 4.3). -/
inductive Transfer where
  | read (tag : BitVec 8) (first count address : Nat)
  | write (tag : BitVec 8) (first count address : Nat)
  | verify (tag : BitVec 8) (first count : Nat)
  | format (tag : BitVec 8) (cylinder head : Nat) (mask : Word) (fill : Byte)
  deriving DecidableEq, Repr

/-- The READ in a command. -/
def readOf (command : List Word) : Transfer :=
  .read (tagOf command) (commandWord command 2).toNat (commandWord command 3).toNat (hostAddressOf command)

/-- The WRITE in a command. -/
def writeOf (command : List Word) : Transfer :=
  .write (tagOf command) (commandWord command 2).toNat (commandWord command 3).toNat (hostAddressOf command)

/-- The VERIFY in a command. -/
def verifyOf (command : List Word) : Transfer :=
  .verify (tagOf command) (commandWord command 2).toNat (commandWord command 3).toNat

/-- The FORMAT TRACK in a command. -/
def formatOf (command : List Word) : Transfer :=
  .format (tagOf command) (commandWord command 2).toNat (commandWord command 3).toNat (commandWord command 4)
    (lowByte (commandWord command 5))

/-- The tag of a transfer. -/
def Transfer.tag : Transfer → BitVec 8
  | .read tag _ _ _ => tag
  | .write tag _ _ _ => tag
  | .verify tag _ _ => tag
  | .format tag _ _ _ _ => tag

/-- The first block of a transfer; for FORMAT TRACK block 0 of its track (R59). -/
def Transfer.first : Transfer → Nat
  | .read _ first _ _ => first
  | .write _ first _ _ => first
  | .verify _ first _ => first
  | .format _ cylinder head _ _ => blockAddress cylinder head 0

/-- The count of a transfer; for FORMAT TRACK 12 (R59). -/
def Transfer.count : Transfer → Nat
  | .read _ _ count _ => count
  | .write _ _ count _ => count
  | .verify _ _ count => count
  | .format .. => Config.blocksPerTrack

/-- The operation of a transfer with the parameters its entry keeps (R60). -/
def Transfer.operation : Transfer → Operation
  | .read _ _ _ address => .read address
  | .write _ _ _ address => .write address
  | .verify .. => .verify
  | .format _ _ _ mask fill => .format (mask.extractLsb' 0 12) fill

/-- The blocks of a transfer. -/
def Transfer.extent (t : Transfer) : Extent := ⟨t.first, t.first + t.count - 1⟩

/-- Whether an operation changes the medium: a WRITE or a FORMAT (R61). -/
def Operation.changesMedium : Operation → Bool
  | .read _ => false
  | .write _ => true
  | .verify => false
  | .format .. => true

/-- The item of a SET SETTING (R182). -/
inductive Item where
  | quota (p : Port)
  | maintenance (p : Port)
  | leaseLength | retryCount | settleTime | faultHold | hostBusTimeout
  deriving DecidableEq, Repr

/-- The item a word names, if any (R182). -/
def itemOf (w : Word) : Option Item :=
  match w.toNat with
  | 0 => some (.quota .a)
  | 1 => some (.quota .b)
  | 2 => some (.quota .c)
  | 3 => some (.quota .d)
  | 4 => some (.maintenance .a)
  | 5 => some (.maintenance .b)
  | 6 => some (.maintenance .c)
  | 7 => some (.maintenance .d)
  | 8 => some .leaseLength
  | 9 => some .retryCount
  | 10 => some .settleTime
  | 11 => some .faultHold
  | 12 => some .hostBusTimeout
  | _ => none

/-! ### Responses (R183) -/

/-- A response with the values its words carry (Tables 11.3 and 11.4). -/
inductive Response where
  | accepted (index : Nat)
  | granted (handle : Handle)
  | queued (waiter : Nat)
  | done
  | doneWatch (watch : Nat)
  | doneSettings (settings : Settings) (holder : Option Port)
  | badParameter | outOfRange | hostRange | quota | tableFull | duplicateTag | notLocked | notOwner
  | staleHandle | notFound | conflict | overlap | waitFull | watchFull | inUse | notPermitted
  | tokenHeld (holder : Port)
  | noToken | notReady | tooLate | unknownCommand
  deriving DecidableEq, Repr

/-- The response codes of Table 11.3. -/
def Response.code : Response → Byte
  | .accepted _ => 0x01
  | .granted _ => 0x02
  | .queued _ => 0x03
  | .done => 0x04
  | .doneWatch _ => 0x04
  | .doneSettings .. => 0x04
  | .badParameter => 0x10
  | .outOfRange => 0x11
  | .hostRange => 0x12
  | .quota => 0x13
  | .tableFull => 0x14
  | .duplicateTag => 0x15
  | .notLocked => 0x16
  | .notOwner => 0x17
  | .staleHandle => 0x18
  | .notFound => 0x19
  | .conflict => 0x1A
  | .overlap => 0x1B
  | .waitFull => 0x1C
  | .watchFull => 0x1D
  | .inUse => 0x1E
  | .notPermitted => 0x1F
  | .tokenHeld _ => 0x20
  | .noToken => 0x21
  | .notReady => 0x22
  | .tooLate => 0x23
  | .unknownCommand => 0x24

/-- A port as a number, 0 for A to 3 for D (R183, R184). -/
def portNumber : Port → Nat
  | .a => 0
  | .b => 1
  | .c => 2
  | .d => 3

/-- The token holder as READ SETTINGS shows it, 0 NONE, 1 A to 4 D (R183). -/
def holderNumber : Option Port → Nat
  | none => 0
  | some p => portNumber p + 1

/-- A handle in eight bits, index above generation (R182). -/
def handleByte (h : Handle) : Byte := (BitVec.ofNat 4 h.index ++ BitVec.ofNat 4 h.generation : BitVec 8)

/-- Two bytes in a word. -/
def wordOfBytes (high low : Byte) : Word := (high ++ low : BitVec 16)

/-- A number in the low-order eight bits of a word. -/
def wordOfNat (n : Nat) : Word := BitVec.ofNat 16 n

/-- The settings words of READ SETTINGS, response words 1 to 7 (Table 11.4). -/
def settingsWords (t : Settings) (holder : Option Port) : List Word :=
  [wordOfBytes (BitVec.ofNat 8 (t.quota.get .b)) (BitVec.ofNat 8 (t.quota.get .a)),
    wordOfBytes (BitVec.ofNat 8 (t.quota.get .d)) (BitVec.ofNat 8 (t.quota.get .c)),
    (0#9 ++ BitVec.ofNat 3 (holderNumber holder) ++ BitVec.ofBool (t.maintenance.get .d) ++
      BitVec.ofBool (t.maintenance.get .c) ++ BitVec.ofBool (t.maintenance.get .b) ++
      BitVec.ofBool (t.maintenance.get .a) : BitVec 16),
    wordOfNat t.leaseLength,
    wordOfNat t.retryCount,
    wordOfBytes (BitVec.ofNat 8 t.faultHold) (BitVec.ofNat 8 t.settleTime),
    wordOfNat t.hostBusTimeout]

/-- Response words 1 to 7: the values of Table 11.4, and 0 for every other response (R183). -/
def Response.values : Response → List Word
  | .accepted index => wordOfNat index :: List.replicate 6 0
  | .granted handle => wordOfBytes 0 (handleByte handle) :: List.replicate 6 0
  | .queued waiter => wordOfNat waiter :: List.replicate 6 0
  | .doneWatch watch => wordOfNat watch :: List.replicate 6 0
  | .tokenHeld holder => wordOfNat (portNumber holder) :: List.replicate 6 0
  | .doneSettings settings holder => settingsWords settings holder
  | _ => List.replicate 7 0

/-- Response words 0 to 7 of a response to a command of the code given (R183). -/
def responseWords (code : Byte) (r : Response) : List Word := wordOfBytes code r.code :: r.values

/-! ### Record and notice words (R184, Table 11.5) -/

/-- The kind number of a record. -/
def Record.kindNumber : Record → Nat
  | .transferDone .. => 1
  | .lockGranted _ => 2
  | .lockDenied _ => 3
  | .lockExpired _ => 4
  | .lockForced _ => 5

/-- The number of a status. -/
def statusNumber : Status → Nat
  | .ok => 0
  | .cancelled => 1
  | .lockLost => 2
  | .dataCheck => 3
  | .headerNotFound => 4
  | .positionError => 5
  | .defectiveBlock => 6
  | .writeProtected => 7
  | .driveNotReady => 8
  | .hostBusTimeout => 9

/-- Record word 0: a record is shown, its kind, status and tag. -/
def recordWord0 (r : Record) : Word :=
  match r with
  | .transferDone tag status _ _ _ =>
    (1#1 ++ BitVec.ofNat 3 r.kindNumber ++ BitVec.ofNat 4 (statusNumber status) ++ tag : BitVec 16)
  | _ => (1#1 ++ BitVec.ofNat 3 r.kindNumber ++ 0#12 : BitVec 16)

/-- Record word 1: whether a failing block is present, and the handle or waiter number. -/
def recordWord1 : Record → Word
  | .transferDone _ _ _ _ failing => (BitVec.ofBool failing.isSome ++ 0#15 : BitVec 16)
  | .lockGranted h => wordOfBytes 0 (handleByte h)
  | .lockDenied n => (0#13 ++ BitVec.ofNat 3 n : BitVec 16)
  | .lockExpired h => wordOfBytes 0 (handleByte h)
  | .lockForced h => wordOfBytes 0 (handleByte h)

/-- Record word 2: retries used and blocks done. -/
def recordWord2 : Record → Word
  | .transferDone _ _ blocksDone retriesUsed _ =>
    (0#5 ++ BitVec.ofNat 3 retriesUsed ++ 0#1 ++ BitVec.ofNat 7 blocksDone : BitVec 16)
  | _ => 0

/-- Record word 3: the failing block. -/
def recordWord3 : Record → Word
  | .transferDone _ _ _ _ (some block) => (0#3 ++ BitVec.ofNat 13 block : BitVec 16)
  | _ => 0

/-- Record words 0 to 3 of the head record; all 0 for an empty queue (R184). -/
def recordWords : List Record → List Word
  | [] => List.replicate 4 0
  | r :: _ => [recordWord0 r, recordWord1 r, recordWord2 r, recordWord3 r]

/-- The kind bit of a notice. -/
def WriteKind.bit : WriteKind → BitVec 1
  | .written => 0#1
  | .formatted => 1#1

/-- Notice words 0 to 2 of the head notice; all 0 for an empty queue (R184). -/
def noticeWords : List Notice → List Word
  | [] => List.replicate 3 0
  | n :: _ =>
    [(1#1 ++ 0#1 ++ BitVec.ofNat 2 (portNumber n.writer) ++ 0#2 ++ BitVec.ofNat 2 n.watch ++ 0#7 ++ n.kind.bit :
        BitVec 16),
      wordOfNat n.extent.first, wordOfNat n.extent.last]

end Sys2Proof.Machine
end

