-- ==== Sys2Proof/Machine/Flags.lean ====
section
/-! DEFINITION. The flags and lines computed from the state: the status word (R177), the enable word (R178), the
interrupt conditions and the interrupt line (R150, R152), the bus request (R135), and every word a read of
the window returns (R172). -/

namespace Sys2Proof.Machine

/-- The RESPONSE interrupt condition (R150). -/
def responseCondition (s : State) (p : Port) : Bool := (s.windows.get p).responseReady

/-- The COMPLETION interrupt condition (R150). -/
def completionCondition (s : State) (p : Port) : Bool := decide (1 ≤ (s.completions.get p).length)

/-- The NOTICE interrupt condition (R150, R159). -/
def noticeCondition (s : State) (p : Port) : Bool :=
  decide (1 ≤ (s.notices.get p).queue.length) || (s.notices.get p).lost

/-- The interrupt line of a port: asserted while a condition is true and its enable is set (R152). -/
def interruptLine (s : State) (p : Port) : Bool :=
  (responseCondition s p && (s.enables.get p).response) ||
    (completionCondition s p && (s.enables.get p).completion) ||
    (noticeCondition s p && (s.enables.get p).notice)

/-- The bus request of a port's engine: asserted while it waits for a grant (R132, R135). -/
def busRequest (s : State) (p : Port) : Bool := decide ((s.engines.get p).state = .requesting)

/-- Whether the window is BUSY. -/
def WindowState.isBusy : WindowState → Bool
  | .idle => false
  | .busy _ => true

/-- The status word of a port (R177). -/
def statusWord (s : State) (p : Port) : Word :=
  (0#1 ++ BitVec.ofNat 3 (s.notices.get p).queue.length ++ BitVec.ofNat 4 (s.completions.get p).length ++ 0#4 ++
    BitVec.ofBool (s.windows.get p).state.isBusy ++ BitVec.ofBool (s.notices.get p).lost ++
    BitVec.ofBool (s.windows.get p).commandOverrun ++ BitVec.ofBool (s.windows.get p).responseReady : BitVec 16)

/-- The interrupt enables a written word sets (R178). -/
def enablesOf (w : Word) : Enables := ⟨w.getLsbD 0, w.getLsbD 1, w.getLsbD 2⟩

/-- The interrupt enable word as read (R178). -/
def enableWord (e : Enables) : Word :=
  (0#13 ++ BitVec.ofBool e.notice ++ BitVec.ofBool e.completion ++ BitVec.ofBool e.response : BitVec 16)

/-- The word a read of the window returns, by its offset (R172, Table 11.1): 0 for a write-only word. -/
def windowWord (s : State) (p : Port) (offset : Nat) : Word :=
  if offset = 0 then statusWord s p
  else if offset = 1 then enableWord (s.enables.get p)
  else if offset = 2 then wordOfBytes 0 (s.windowBase.get p)
  else if offset < 7 then 0
  else if offset < 15 then (s.windows.get p).staging.getD (offset - 7) 0
  else if offset < 23 then (s.windows.get p).response.getD (offset - 15) 0
  else if offset < 27 then (recordWords (s.completions.get p)).getD (offset - 23) 0
  else (noticeWords (s.notices.get p).queue).getD (offset - 27) 0

end Sys2Proof.Machine
end

