-- ==== Sys2Proof/Machine/Ops.lean ====
section
/-! DEFINITION. The named operations that the units share: answering a command in hand, the pending-record lists,
the Request Table's entries, the buffers with the engines that move them, and what a request's entry into
HELD or FREE does to all of these. -/

namespace Sys2Proof.Machine

/-! ### The command window (R173 to R175) -/

/-- The state with the window of port `p` replaced. -/
def State.setWindow (s : State) (p : Port) (w : Window) : State := s.withWindows (s.windows.set p w)

/-- The posting of a response: the response words written, RESPONSE READY set, the window IDLE (R175). -/
def postResponse (p : Port) (code : Byte) (r : Response) (s : State) : State :=
  s.setWindow p
    { s.windows.get p with state := .idle, response := responseWords code r, responseReady := true }

/-- What a unit answers to a command: its response and the state it leaves. -/
structure Answer where
  response : Response
  state : State

/-- A refusal: the response, with no other change. -/
def refuse (r : Response) (s : State) : Answer := ⟨r, s⟩

/-- The taking of the command in hand of port `p` by the unit that owns the code: the unit decides it and the
port posts the response in the same event (R175). With no such command in hand there is nothing to take, and a
port held in reset takes no command (R179). -/
def takeCommand (p : Port) (owns : Byte → Bool) (decision : List Word → State → Answer) (s : State) : State :=
  match (s.windows.get p).state with
  | .idle => s
  | .busy command =>
    if s.initLine.get p then s
    else if owns (commandCode command) then
      postResponse p (commandCode command) (decision command s).response (decision command s).state
    else s

/-- A write of a window word: disregarded while the port is held in reset (R179). -/
def windowWrite (p : Port) (effect : State → State) (s : State) : State :=
  if s.initLine.get p then s else effect s

/-! ### The pending-record lists (R142, R143) -/

/-- An item joins the end of the pending-record list of port `p` (R143). -/
def joinPending (p : Port) (item : OwnerRef) (s : State) : State :=
  s.withPendingRecords (s.pendingRecords.set p (s.pendingRecords.get p ++ [item]))

/-! ### The Request Table's entries (R55) -/

/-- The entry of index `i` that is not FREE. -/
def findRequest (s : State) (i : Nat) : Option Request := s.requests.find? (fun r => decide (r.index = i))

/-- The change of one entry. -/
def updateRequest (i : Nat) (f : Request → Request) (s : State) : State :=
  s.withRequests (s.requests.map (fun r => if r.index = i then f r else r))

/-- An entry becomes FREE and leaves the arrival order (R68). -/
def removeRequest (i : Nat) (s : State) : State :=
  s.withRequests (s.requests.filter (fun r => decide (r.index ≠ i)))

/-- A dependency set without entry `i`; a WAITING request whose set thereby becomes empty enters READY (R62). -/
def Request.dropDependency (i : Nat) (r : Request) : Request :=
  if r.dependencies.contains i then
    let rest := r.dependencies.filter (fun d => decide (d ≠ i))
    if r.state = .waiting ∧ rest = [] then { r with dependencies := rest, state := .ready }
    else { r with dependencies := rest }
  else r

/-- Entry `i` leaves the medium: it is removed from the dependency sets that hold it (R62). -/
def leaveMedium (i : Nat) (s : State) : State := s.withRequests (s.requests.map (Request.dropDependency i))

/-- Whether a request is WAITING, READY or ACTIVE, that is, on the medium (R56). -/
def Request.onMedium (r : Request) : Bool :=
  match r.state with
  | .waiting => true
  | .ready => true
  | .active _ => true
  | _ => false

/-- Whether a request is ACTIVE. -/
def Request.isActive (r : Request) : Bool :=
  match r.state with
  | .active _ => true
  | _ => false

/-- Whether a request is DRAINING. -/
def Request.isDraining (r : Request) : Bool :=
  match r.state with
  | .draining .. => true
  | _ => false

/-- The retries used raised to the number a report carries, when that is greater (R65, R185). -/
def raiseRetries (i retries : Nat) (s : State) : State :=
  updateRequest i (fun r => { r with retriesUsed := max r.retriesUsed retries }) s

/-! ### The buffers (R123 to R126) -/

/-- The buffer of index `i`, if it is not FREE. -/
def bufferAt (s : State) (i : Nat) : Option Buffer := s.buffers.getD i none

/-- The buffer of index `i` replaced. -/
def setBuffer (i : Nat) (b : Option Buffer) (s : State) : State := s.withBuffers (s.buffers.set i b)

/-- The buffers bound to an entry, each with its index (R123). -/
def boundBuffers (s : State) (entry : Nat) : List (Nat × Buffer) :=
  s.buffers.zipIdx.filterMap fun x =>
    match x.1 with
    | some b => if b.entry = entry then some (x.2, b) else none
    | none => none

/-- The FREE buffer with the lowest index (R125). -/
def lowestFreeBuffer (s : State) : Option Nat := s.buffers.findIdx? Option.isNone

/-- Whether a buffer serves the sequencer's block in progress: FILLING or WRITING (R137, R138). -/
def Buffer.servesMedium (b : Buffer) : Bool :=
  match b.state with
  | .filling => true
  | .writing _ => true
  | _ => false

/-- An engine whose current buffer is freed: REQUESTING, it negates its bus request, stops its timer and has
no current buffer; MOVING, its burst runs on withdrawn (R136). -/
def Engine.loseBuffer (e : Engine) : Engine :=
  match e.state with
  | .moving => { e with withdrawn := true }
  | _ => { e with state := .idle, current := none, timer := none }

/-- Whether the buffer of index `i` is freed by the test `test`. -/
def freesBuffer (test : Buffer → Bool) (s : State) (i : Nat) : Bool :=
  match bufferAt s i with
  | some b => test b
  | none => false

/-- The freeing of every buffer that meets a test, with its withdrawal from the engine moving it (R126, R136). -/
def freeBuffers (test : Buffer → Bool) (s : State) : State :=
  (s.withBuffers (s.buffers.map fun b =>
      match b with
      | some x => if test x then none else some x
      | none => none)).withEngines
    (s.engines.map fun e =>
      match e.current with
      | some i => if freesBuffer test s i then e.loseBuffer else e
      | none => e)

/-- The freeing of every buffer bound to an entry (R126). -/
def freeEntryBuffers (i : Nat) (s : State) : State := freeBuffers (fun b => decide (b.entry = i)) s

/-- An engine forgets an entry: its prefetch of it ends with a waiting claim, and it is no longer given up
(R127, R130, R137). -/
def Engine.forget (i : Nat) (e : Engine) : Engine :=
  let e1 :=
    match e.prefetch with
    | some f => if f.entry = i then { e with prefetch := none, waitingClaim := none } else e
    | none => e
  if e1.givenUp = some i then { e1 with givenUp := none } else e1

/-- Every engine forgets an entry. -/
def forgetEntry (i : Nat) (s : State) : State := s.withEngines (s.engines.map (Engine.forget i))

/-! ### Entry into HELD and FREE (R62, R67, R68) -/

/-- A request enters HELD with its outcome: it has left the medium, its buffers are freed, its engine forgets it,
and it joins its port's pending-record list (R62, R67). -/
def enterHeld (i : Nat) (status : Status) (failing : Option Nat) (s : State) : State :=
  match findRequest s i with
  | none => s
  | some r =>
    joinPending r.port (.request i)
      (forgetEntry i
        (freeEntryBuffers i
          (leaveMedium i
            (updateRequest i (fun q => { q with state := .held status failing, dependencies := [] }) s))))

/-- A request becomes FREE with its buffers freed and without a record (R76, R79). -/
def freeRequest (i : Nat) (s : State) : State :=
  forgetEntry i (freeEntryBuffers i (leaveMedium i (removeRequest i s)))

end Sys2Proof.Machine
end

