-- ==== Sys2Proof/Machine/SequencerOps.lean ====
section
/-! DEFINITION. What the Medium Sequencer shares among its events: positioning, the search, the advance from block
to block, stops at a block boundary, and the end of its work on a request with what the Request Table
makes of the report (chapter 6; R65, R66, R71 to R73, R76). -/

namespace Sys2Proof.Machine

/-- The sequencer changed by a function. -/
def State.modifySequencer (s : State) (f : Sequencer → Sequencer) : State := s.withSequencer (f s.sequencer)

/-- The service record changed by a function; nothing where there is none. -/
def modifyService (f : Service → Service) (s : State) : State :=
  s.modifySequencer fun q => { q with service := q.service.map f }

/-- The lines of the drive port changed by a function. -/
def State.modifyDrive (s : State) (f : DriveLines → DriveLines) : State := s.withDrive (f s.drive)

/-- The WRITE PROTECT level as it stands at a drive event (R8; log 6). -/
def senseWriteProtect (level : Bool) (s : State) : State :=
  s.modifyDrive fun d => { d with writeProtect := level }

/-- WRITE GATE asserted, with the bytes recorded (R13). -/
def assertWriteGate (bytes : List Byte) (s : State) : State :=
  s.modifyDrive fun d => { d with writeGate := true, writeData := bytes }

/-- WRITE GATE removed (R13). -/
def removeWriteGate (s : State) : State := s.modifyDrive fun d => { d with writeGate := false, writeData := [] }

/-! ### The end of the sequencer's work on a request -/

/-- How the sequencer's work on a request ends: the last block finished (R112), a failure (R113), or a
stop at a block boundary (R115). -/
inductive MediumEnd where
  | finished
  | failed (status : Status) (failing : Option Nat)
  | stopped
  deriving DecidableEq, Repr

/-- The retries the report carries: those spent on the current block, and none with DRIVE NOT READY (R185). -/
def MediumEnd.retries (e : MediumEnd) (v : Service) : Nat :=
  match e with
  | .failed .driveNotReady _ => 0
  | _ => v.retriesSpent

/-- The kind of write report an operation makes: none for READ and VERIFY (R157). -/
def Operation.writeKind : Operation → Option WriteKind
  | .read _ => none
  | .write _ => some .written
  | .verify => none
  | .format .. => some .formatted

/-- The write report of a request that enters HELD from ACTIVE with a written extent (R114, R157). -/
def makeWriteReport (r : Request) (v : Service) (s : State) : State :=
  match r.operation.writeKind with
  | none => s
  | some kind =>
    if v.written = 0 then s
    else s.withWriteReports (s.writeReports ++ [⟨r.port, ⟨r.first, r.first + v.written - 1⟩, kind⟩])

/-- The Request Table ends an ACTIVE request with no stop pending on a status: a READ with undelivered good
blocks enters DRAINING, any other enters HELD (R66). -/
def endActive (r : Request) (v : Service) (status : Status) (failing : Option Nat) (s : State) : State :=
  match r.operation with
  | .read _ =>
    if r.blocksDone < r.mediumCount then
      leaveMedium r.index (updateRequest r.index (fun q => { q with state := .draining status failing }) s)
    else enterHeld r.index status failing s
  | _ => makeWriteReport r v (enterHeld r.index status failing s)

/-- What the Request Table makes of the report that the sequencer's work is over (R65, R66, R72, R76). A stop
reported for a request with none pending, or a report for an entry in another state, cannot arise and
changes nothing. -/
def applyEnd (r : Request) (v : Service) (e : MediumEnd) (s : State) : State :=
  match r.state with
  | .orphaned => freeRequest r.index s
  | .active (some stop) => makeWriteReport r v (enterHeld r.index stop none s)
  | .active none =>
    match e with
    | .finished => endActive r v .ok none s
    | .failed status failing => endActive r v status failing s
    | .stopped => s
  | _ => s

/-- The sequencer gives back its buffer, removes WRITE GATE, stops its timers, discards the service record and
enters the state given (R113, R115, R126). -/
def closeService (v : Service) (next : SequencerState) (s : State) : State :=
  ((freeBuffers (fun b => decide (b.entry = v.entry) && b.servesMedium) s).modifySequencer fun q =>
      { q with state := next, service := none, positioningTimer := none, settleTimer := none }).modifyDrive
    fun d => { d with writeGate := false, writeData := [] }

/-- The end of the sequencer's work on the request it serves, and the Request Table's taking of the report. The
scheduler's run on entry into IDLE follows at the end of the event (`settle`). -/
def endOnMedium (e : MediumEnd) (next : SequencerState) (s : State) : State :=
  match s.sequencer.service with
  | none => s
  | some v =>
    let s1 := raiseRetries v.entry (e.retries v) (closeService v next s)
    match findRequest s1 v.entry with
    | none => s1
    | some r => applyEnd r v e s1

/-- A failure on the medium, after which the sequencer enters IDLE (R113). -/
def failOnMedium (status : Status) (failing : Nat) (s : State) : State :=
  endOnMedium (.failed status (some failing)) .idle s

/-- A failure naming the current block. -/
def failCurrent (status : Status) (s : State) : State :=
  match s.sequencer.service with
  | none => s
  | some v => failOnMedium status v.current s

/-! ### Positioning and the search -/

/-- SEEK issued to a cylinder, its timer started toward 1 s, the sequencer SEEKING (R11, R100). -/
def issueSeek (cylinder : Nat) (s : State) : State :=
  s.modifySequencer fun q =>
    { q with state := .seeking, outstanding := some (.seek cylinder), positioningTimer := some Config.seekLimit }

/-- RECALIBRATE issued, its timer started toward 2 s, the sequencer in the state given (R96, R102). -/
def issueRecalibrate (state : SequencerState) (s : State) : State :=
  s.modifySequencer fun q =>
    { q with state := state, outstanding := some .recalibrate, positioningTimer := some Config.recalibrateLimit }

/-- The settle timer started from its setting, the sequencer SETTLING (R101, R121). -/
def enterSettling (s : State) : State :=
  s.modifySequencer fun q => { q with state := .settling, settleTimer := some s.settings.settleTime }

/-- SEARCHING entered: index passes 0, the selected head the head of the current block (R103). -/
def enterSearching (s : State) : State :=
  match s.sequencer.service with
  | none => s
  | some v =>
    s.modifySequencer fun q =>
      { q with
        state := .searching
        head := headOf v.current
        service := some { v with indexPasses := 0, headerReading := false } }

/-- FORMATTING entered: the head of the track selected, WRITE PROTECT sampled once (R8, R118). -/
def enterFormatting (s : State) : State :=
  match s.sequencer.service with
  | none => s
  | some v =>
    let s1 := s.modifySequencer fun q =>
      { q with
        state := .formatting
        head := headOf v.current
        service := some { v with headerReading := false, phase := .waitIndex } }
    if s.drive.writeProtect then failOnMedium .writeProtected v.current s1 else s1

/-- Whether the sequencer serves a FORMAT TRACK. -/
def Operation.isFormat : Operation → Bool
  | .format .. => true
  | _ => false

/-- The state the sequencer enters on the request's cylinder: FORMATTING for a FORMAT TRACK and SEARCHING
otherwise (R100, R101). -/
def enterTrack (r : Request) (s : State) : State :=
  if r.operation.isFormat then enterFormatting s else enterSearching s

/-- A header mismatch of the current positioning (R102). -/
def headerMismatch (s : State) : State :=
  match s.sequencer.service with
  | none => s
  | some v =>
    match v.recovery with
    | .unused =>
      issueRecalibrate .seeking
        (s.modifySequencer fun q =>
          { q with
            settleTimer := none
            service := some { v with recovery := .recalibrateStep, headerReading := false } })
    | _ => failCurrent .positionError s

/-! ### Finishing a block and advancing -/

/-- The Request Table takes the report of blocks finished good: the medium count rises, blocks done follows it but
for a READ, and retries used is raised (R65). -/
def finishBlocks (n retries : Nat) (s : State) : State :=
  match s.sequencer.service with
  | none => s
  | some v =>
    updateRequest v.entry
      (fun r =>
        { r with
          mediumCount := r.mediumCount + n
          blocksDone :=
            match r.operation with
            | .read _ => r.blocksDone
            | _ => r.mediumCount + n
          retriesUsed := max r.retriesUsed retries })
      s

/-- The step to the next block of the request: the same track, a head switch, or a cylinder crossing with a
positioning of its own (R110, R111). -/
def nextBlock (v : Service) (s : State) : State :=
  let next := v.current + 1
  if cylinderOf next = cylinderOf v.current then
    enterSearching (modifyService (fun w => { w with current := next, retriesSpent := 0 }) s)
  else
    let target := (s.sequencer.believed.getD 0) + 1
    issueSeek target
      (s.modifySequencer fun q =>
        { q with
          head := 0
          service :=
            some { v with current := next, retriesSpent := 0, target := target, recovery := .unused,
                          headerReading := false } })

/-- After a block finished good: the end of the request, a stop at this boundary, or the next block (R110). An
orphan always has its stop asked (R117). -/
def advance (s : State) : State :=
  match s.sequencer.service with
  | none => s
  | some v =>
    match findRequest s v.entry with
    | none => s
    | some r =>
      if v.current = r.last then endOnMedium .finished .idle s
      else if v.stopAsked then endOnMedium .stopped .idle s
      else nextBlock v s

/-- A data check error on a block of a READ or VERIFY (R109). -/
def dataCheckError (s : State) : State :=
  match s.sequencer.service with
  | none => s
  | some v =>
    if v.stopAsked then endOnMedium .stopped .idle s
    else if v.retriesSpent < s.settings.retryCount then
      enterSearching (modifyService (fun w => { w with retriesSpent := w.retriesSpent + 1 }) s)
    else failCurrent .dataCheck s

/-! ### Stops (R71, R115 to R117) -/

/-- A stop asked is taken at once in SETTLING, in SEARCHING, and in FORMATTING before WRITE GATE is asserted; in the
other states it waits for its block boundary (R116). -/
def takeStop (s : State) : State :=
  match s.sequencer.state with
  | .settling => endOnMedium .stopped .idle s
  | .searching => endOnMedium .stopped .idle s
  | .formatting => if s.drive.writeGate then s else endOnMedium .stopped .idle s
  | _ => s

/-- An ACTIVE request is marked to stop: its stop pending set, and the sequencer told (R71, R115). -/
def markStop (i : Nat) (reason : Status) (s : State) : State :=
  modifyService (fun v => { v with stopAsked := true })
    (updateRequest i (fun q => { q with state := .active (some reason) }) s)

/-- A stop asked of an ACTIVE request with none pending, and taken at once where R116 says so; the first stop stands
(R71). -/
def askStop (i : Nat) (reason : Status) (s : State) : State :=
  match findRequest s i with
  | none => s
  | some r => if r.state = .active none then takeStop (markStop i reason s) else s

/-- A lock-cessation report reaches one entry (Table 4.3). The stop it asks of an ACTIVE request is taken when the
Request Table has taken the whole report (`cessationStop`). -/
def cessationOf (owner : Port) (extent : Extent) (s : State) (i : Nat) : State :=
  match findRequest s i with
  | none => s
  | some r =>
    if r.port = owner ∧ r.extent.overlaps extent then
      match r.state with
      | .waiting => enterHeld i .lockLost none s
      | .ready => enterHeld i .lockLost none s
      | .active none => markStop i .lockLost s
      | _ => s
    else s

/-- The Request Table takes a lock-cessation report, entry by entry in arrival order (R73). -/
def lockCessation (owner : Port) (extent : Extent) (s : State) : State :=
  (s.requests.map Request.index).foldl (cessationOf owner extent) s

/-- Whether a lock-cessation report asks a stop: its port's ACTIVE request has a block inside and none pending (R73). -/
def cessationStops (owner : Port) (extent : Extent) (s : State) : Bool :=
  s.requests.any fun r => decide (r.port = owner ∧ r.state = .active none) && r.extent.overlaps extent

/-- The stop that a lock-cessation report asked for, taken at once where R116 says so. The request then joins its port's
list behind the lock's own entry (R73; log 23). -/
def cessationStop (asked : Bool) (s : State) : State := if asked then takeStop s else s

/-- The Request Table takes the report of the sequencer's entry into OFFLINE, entry by entry in arrival order
(R78). -/
def offlineReport (s : State) : State :=
  (s.requests.map Request.index).foldl
    (fun st i =>
      match findRequest st i with
      | none => st
      | some r =>
        match r.state with
        | .waiting => enterHeld i .driveNotReady none st
        | .ready => enterHeld i .driveNotReady none st
        | _ => st)
    s

end Sys2Proof.Machine
end

