-- ==== Sys2Proof/Machine/LockOps.lean ====
section
/-! DEFINITION. What the Lock Unit shares among its commands and events: the conflict and coverage tests, the
allocation of an entry, the re-examination of the wait queue, and the cessation of a lock (chapters 2, 3). -/

namespace Sys2Proof.Machine

/-- Lock Table entry `i`. -/
def lockAt (s : State) (i : Nat) : LockEntry := s.locks.getD i ⟨0, .free⟩

/-- Lock Table entry `i` in another state, its generation kept. -/
def setLockState (i : Nat) (state : LockState) (s : State) : State :=
  s.withLocks (s.locks.set i ⟨(lockAt s i).generation, state⟩)

/-- Whether an entry is FREE. -/
def LockEntry.isFree (e : LockEntry) : Bool := decide (e.state = .free)

/-- The FREE entry with the lowest index (R17). -/
def lowestFreeLock (s : State) : Option Nat := s.locks.findIdx? LockEntry.isFree

/-- The lock of a HELD entry, that is, a lock in effect (R16). -/
def LockEntry.heldLock (e : LockEntry) : Option Lock :=
  match e.state with
  | .held lock _ => some lock
  | _ => none

/-- The locks in effect, in index order (R16). -/
def heldLocks (s : State) : List Lock := s.locks.filterMap LockEntry.heldLock

/-- Two claims bar one another: their extents overlap and one or both is EXCLUSIVE (R19, R22, R46). -/
def Lock.bars (x y : Lock) : Bool :=
  x.extent.overlaps y.extent && (decide (x.mode = .exclusive) || decide (y.mode = .exclusive))

/-- Two locks conflict: they bar one another and their owner ports differ (R19). -/
def Lock.conflicts (x y : Lock) : Bool := x.bars y && decide (x.owner ≠ y.owner)

/-- Whether a claim conflicts with a HELD entry (R19). -/
def conflictsWithHeld (s : State) (lock : Lock) : Bool := (heldLocks s).any (Lock.conflicts lock)

/-- Whether a waiter is WAITING. -/
def Waiter.isWaiting (w : Waiter) : Bool :=
  match w.state with
  | .waiting _ => true
  | .denied => false

/-- Whether a claim is barred by a WAITING waiter of a list (R22, R46). -/
def barredBy (waiters : List Waiter) (lock : Lock) : Bool :=
  waiters.any fun w => w.isWaiting && w.lock.bars lock

/-- Whether an extent overlaps one of a port's HELD locks or WAITING waiters (R20). -/
def overlapsOwn (s : State) (p : Port) (extent : Extent) : Bool :=
  (heldLocks s).any (fun l => decide (l.owner = p) && l.extent.overlaps extent) ||
    s.waiters.any (fun w => w.isWaiting && decide (w.lock.owner = p) && w.lock.extent.overlaps extent)

/-- The lease a grant report or a RENEW starts: the lease-length setting, NO LEASE when it is 0 (R25). -/
def startedLease (s : State) : Option Nat :=
  if s.settings.leaseLength = 0 then none else some s.settings.leaseLength

/-- The generation after an allocation, with 15 followed by 0 (R17). -/
def nextGeneration (g : Nat) : Nat := (g + 1) % 16

/-- The allocation of entry `i`: its generation raised, HELD with the claim given (R17). -/
def allocateLock (i : Nat) (lock : Lock) (grant : Grant) (s : State) : State :=
  s.withLocks (s.locks.set i ⟨nextGeneration (lockAt s i).generation, .held lock grant⟩)

/-- The handle of an entry: its index with its present generation (R17, R141). -/
def handleAt (s : State) (i : Nat) : Handle := ⟨i, (lockAt s i).generation⟩

/-! ### The Lock Wait Queue (R40 to R47) -/

/-- The waiter in a slot. -/
def findWaiter (s : State) (slot : Nat) : Option Waiter := s.waiters.find? (fun w => decide (w.slot = slot))

/-- The waiter of a slot leaves the queue (R41). -/
def removeWaiter (slot : Nat) (s : State) : State :=
  s.withWaiters (s.waiters.filter (fun w => decide (w.slot ≠ slot)))

/-- The empty slot with the lowest number (R41). -/
def lowestEmptySlot (s : State) : Option Nat :=
  (List.range Config.waitSlots).find? (fun n => !(s.waiters.any (fun w => decide (w.slot = n))))

/-- The waiters older than a waiter, that is, ahead of it in arrival order. -/
def olderWaiters (s : State) (w : Waiter) : List Waiter :=
  s.waiters.takeWhile (fun v => decide (v.slot ≠ w.slot))

/-- Whether a waiter is grantable at its turn: it conflicts with no HELD entry and is barred by no older waiter
still WAITING (R46); the third condition, a FREE entry, is the entry that `grantWaiter` finds. -/
def grantable (s : State) (w : Waiter) : Bool :=
  w.isWaiting && !(conflictsWithHeld s w.lock) && !(barredBy (olderWaiters s w) w.lock)

/-- The turn of one waiter in a re-examination: a grantable waiter is given the lowest FREE entry with
GRANT-UNREPORTED set, the entry joins its owner's pending-record list, and the waiter leaves (R46, R47). -/
def grantWaiter (s : State) (w : Waiter) : State :=
  if grantable s w then
    match lowestFreeLock s with
    | none => s
    | some i => removeWaiter w.slot (joinPending w.lock.owner (.lock i) (allocateLock i w.lock .unreported s))
  else s

/-- A re-examination: one pass over the waiters in arrival order (R45). -/
def reexamine (s : State) : State := s.waiters.foldl grantWaiter s

/-! ### Cessation (R28, R29, R34, R35) -/

/-- A HELD lock with its grant reported ceases: it has no effect from here on, the Request Table takes the
lock-cessation report, and the entry joins its owner's pending-record list as ENDED-REPORT-PENDING (R28 steps 1
to 3, R34); a stop the report asked for follows (R73). The re-examination of step 4 is the caller's. -/
def ceaseLock (i : Nat) (lock : Lock) (kind : EndKind) (s : State) : State :=
  cessationStop (cessationStops lock.owner lock.extent s)
    (joinPending lock.owner (.lock i) (lockCessation lock.owner lock.extent (setLockState i (.ended lock kind) s)))

/-- A HELD lock with its grant unreported is forced: as `ceaseLock`, but the entry keeps the place it already holds
in its owner's list (R35). -/
def forceUnreported (i : Nat) (lock : Lock) (s : State) : State :=
  cessationStop (cessationStops lock.owner lock.extent s)
    (lockCessation lock.owner lock.extent (setLockState i (.ended lock .forced) s))

/-- The tick taken by entry `i`: a lease is lowered by one, and a lease that reaches 0 expires (R26, R28). -/
def tickLease (s : State) (i : Nat) : State :=
  match (lockAt s i).state with
  | .held lock (.reported (some lease)) =>
    if lease ≤ 1 then ceaseLock i lock .expired s
    else setLockState i (.held lock (.reported (some (lease - 1)))) s
  | _ => s

/-- Whether the lease of an entry ends at the next tick. -/
def LockEntry.expiring (e : LockEntry) : Bool :=
  match e.state with
  | .held _ (.reported (some lease)) => decide (lease ≤ 1)
  | _ => false

/-- A waiter is denied: DENIED-REPORT-PENDING, at the end of its port's pending-record list (R48). -/
def denyWaiter (w : Waiter) (s : State) : State :=
  joinPending w.lock.owner (.waiter w.slot)
    (s.withWaiters (s.waiters.map fun v => if v.slot = w.slot then { v with state := .denied } else v))

/-- The tick taken by a waiter: its wait remaining is lowered by one, and at 0 it is denied (R48). -/
def tickWaiter (s : State) (w : Waiter) : State :=
  match w.state with
  | .waiting (some n) =>
    if n ≤ 1 then denyWaiter w s
    else s.withWaiters
      (s.waiters.map fun v => if v.slot = w.slot then { v with state := .waiting (some (n - 1)) } else v)
  | _ => s

/-- Whether the wait of a waiter ends at the next tick. -/
def Waiter.expiring (w : Waiter) : Bool :=
  match w.state with
  | .waiting (some n) => decide (n ≤ 1)
  | _ => false

/-! ### Coverage (R38) -/

/-- Whether one lock covers a block for a port, EXCLUSIVE where the operation changes the medium (R38). -/
def Lock.covers (p : Port) (exclusive : Bool) (block : Nat) (l : Lock) : Bool :=
  decide (l.owner = p) && l.extent.contains block && (!exclusive || decide (l.mode = .exclusive))

/-- Whether every block of a transfer is covered by the port's HELD locks (R38). -/
def covered (s : State) (p : Port) (t : Transfer) : Bool :=
  (List.range t.count).all fun k =>
    (heldLocks s).any (Lock.covers p t.operation.changesMedium (t.first + k))

/-- Whether a lock of a port is in use: a request of the port WAITING, READY or ACTIVE has a block inside (R32). -/
def lockInUse (s : State) (p : Port) (extent : Extent) : Bool :=
  s.requests.any fun r => decide (r.port = p) && r.onMedium && r.extent.overlaps extent

end Sys2Proof.Machine
end

