-- ==== Sys2Proof/Machine/Scheduler.lean ====
section
/-! DEFINITION. What follows an event inside it: the Head Scheduler's run (chapter 5), the prefetch and the waiting
claim of an ACTIVE WRITE, and the engines' choice of work (chapter 7); `settle` puts them in their order. -/

namespace Sys2Proof.Machine

/-- A port's engine changed by a function. -/
def State.modifyEngine (s : State) (p : Port) (f : Engine → Engine) : State :=
  s.withEngines (s.engines.set p (f (s.engines.get p)))

/-! ### The choice (R83 to R88) -/

/-- The target cylinder of a request (R83). -/
def Request.cylinder (r : Request) : Nat := cylinderOf r.first

/-- The BLOCK MARKs still to pass before block `t` when the position is `p`: (t - p) modulo 12 (R10, R85). -/
def marksToPass (p t : Nat) : Nat := (t + Config.blocksPerTrack - p) % Config.blocksPerTrack

/-- The element with the smallest measure, the earliest in the list on a tie. -/
def pickLeast {α : Type} (measure : α → Nat) : List α → Option α
  | [] => none
  | x :: rest =>
    match pickLeast measure rest with
    | none => some x
    | some y => if measure y < measure x then some y else some x

/-- The choice among requests on one cylinder, oldest first in the list: the soonest target block, the oldest on
a tie; the oldest when the position is UNKNOWN (R85, R86). -/
def pickOnCylinder (position : Option Nat) (candidates : List Request) : Option Request :=
  match position with
  | none => candidates.head?
  | some p => pickLeast (fun r => marksToPass p (blockOf r.first)) candidates

/-- Whether a cylinder lies in the sweep direction from the current one (R87). -/
def liesAhead (direction : Sweep) (current cylinder : Nat) : Bool :=
  match direction with
  | .higher => decide (current < cylinder)
  | .lower => decide (cylinder < current)

/-- The distance between two cylinders. -/
def cylinderDistance (x y : Nat) : Nat := (x - y) + (y - x)

/-- The choice in one direction: the nearest target cylinder that way, and on it as `pickOnCylinder` (R87). -/
def pickAhead (direction : Sweep) (current : Nat) (position : Option Nat) (candidates : List Request) :
    Option Request :=
  let ahead := candidates.filter fun r => liesAhead direction current r.cylinder
  match pickLeast (fun r => cylinderDistance r.cylinder current) ahead with
  | none => none
  | some nearest => pickOnCylinder position (ahead.filter fun r => decide (r.cylinder = nearest.cylinder))

/-- The other direction (R88). -/
def Sweep.reverse : Sweep → Sweep
  | .higher => .lower
  | .lower => .higher

/-- The READY entries in arrival order. -/
def readyRequests (s : State) : List Request := s.requests.filter fun r => decide (r.state = .ready)

/-- The request the scheduler chooses, by the first of its three rules that finds one (Table 5.1). The believed
cylinder is always known when the sequencer is IDLE (R83). -/
def chooseRequest (s : State) : Option Request :=
  match s.sequencer.believed with
  | none => none
  | some current =>
    let ready := readyRequests s
    match ready.find? (fun r => decide (r.passCount = Config.ageLimit)) with
    | some r => some r
    | none =>
      match pickOnCylinder s.sequencer.position (ready.filter fun r => decide (r.cylinder = current)) with
      | some r => some r
      | none =>
        match pickAhead s.sweep current s.sequencer.position ready with
        | some r => some r
        | none => pickAhead s.sweep.reverse current s.sequencer.position ready

/-! ### The effects of a choice (R89, R90, R100) -/

/-- The sweep direction after a choice (R90). -/
def sweepAfter (direction : Sweep) (current target : Nat) : Sweep :=
  if current < target then .higher else if target < current then .lower else direction

/-- A pass count raised by one, staying at 16 (R81). -/
def raisePassCount (r : Request) : Request := { r with passCount := min (r.passCount + 1) Config.ageLimit }

/-- The chosen request enters ACTIVE and the other READY requests' pass counts rise (R64, R81, R89). -/
def activate (i : Nat) (s : State) : State :=
  s.withRequests
    (s.requests.map fun r =>
      if r.index = i then { r with state := .active none }
      else if r.state = .ready then raisePassCount r
      else r)

/-- The service record formed at a hand-over (R100). -/
def Service.start (r : Request) : Service where
  entry := r.index
  current := r.first
  target := r.cylinder
  recovery := .unused
  indexPasses := 0
  retriesSpent := 0
  written := 0
  stopAsked := false
  orphan := false
  buffer := none
  headerReading := false
  phase := .waitIndex

/-- The engine of a WRITE's port begins its prefetch (R130). -/
def startPrefetch (r : Request) (s : State) : State :=
  match r.operation with
  | .write _ => s.modifyEngine r.port fun e => { e with prefetch := some ⟨r.index, r.first⟩ }
  | _ => s

/-- A hand-over of the chosen request to the sequencer in IDLE (R89, R100). -/
def handOver (r : Request) (s : State) : State :=
  let current := s.sequencer.believed.getD 0
  let s1 := (activate r.index s).withSweep (sweepAfter s.sweep current r.cylinder)
  let s2 := (startPrefetch r s1).modifySequencer fun q =>
    { q with service := some (.start r), head := headOf r.first }
  if r.cylinder = current then enterTrack r s2 else issueSeek r.cylinder s2

/-- Runs of the scheduler: while the sequencer is IDLE and a READY request is chosen it is handed over. A second
run in one event follows only a FORMAT TRACK that WRITE PROTECT ends at its hand-over, so a run for each entry of
the table suffices (R82). -/
def runScheduler : Nat → State → State
  | 0, s => s
  | n + 1, s =>
    if s.sequencer.state = .idle then
      match chooseRequest s with
      | none => s
      | some r => runScheduler n (handOver r s)
    else s

/-! ### Prefetch and the waiting claim (R125, R127, R130) -/

/-- Whether the engine may claim a buffer for its prefetch entry: the entry is ACTIVE and not given up, prefetch
next is not beyond its last block, and it holds fewer than 3 buffers (R130). -/
def mayClaim (s : State) (e : Engine) (f : Prefetch) : Bool :=
  match findRequest s f.entry with
  | none => false
  | some r =>
    r.isActive && decide (e.givenUp ≠ some f.entry) && decide (f.next ≤ r.last) &&
      decide ((boundBuffers s f.entry).length < Config.buffersPerRequest)

/-- The claims of a port's engine, one after another: a granted claim binds the lowest FREE buffer in LOADING
and prefetch next rises; a claim not granted waits, and a waiting claim is decided again (R125, R127, R130). -/
def prefetchPort (p : Port) : Nat → State → State
  | 0, s => s
  | n + 1, s =>
    match (s.engines.get p).prefetch with
    | none => s
    | some f =>
      if mayClaim s (s.engines.get p) f then
        match lowestFreeBuffer s with
        | none => s.modifyEngine p fun e => { e with waitingClaim := some f.next }
        | some i =>
          prefetchPort p n
            ((setBuffer i (some ⟨f.entry, f.next, .loading []⟩) s).modifyEngine p fun e =>
              { e with prefetch := some ⟨f.entry, f.next + 1⟩, waitingClaim := none })
      else s

/-! ### The engines' choice of work (R129, R133) -/

/-- The LOADING buffers of an entry. -/
def loadingBuffers (s : State) (entry : Nat) : List (Nat × Buffer) :=
  (boundBuffers s entry).filter fun x =>
    match x.2.state with
    | .loading _ => true
    | _ => false

/-- The FULL buffers of an entry. -/
def fullBuffers (s : State) (entry : Nat) : List (Nat × Buffer) :=
  (boundBuffers s entry).filter fun x =>
    match x.2.state with
    | .full _ => true
    | _ => false

/-- Whether an entry has a DRAINING-TO-HOST buffer. -/
def hasDraining (s : State) (entry : Nat) : Bool :=
  (boundBuffers s entry).any fun x =>
    match x.2.state with
    | .draining .. => true
    | _ => false

/-- The buffer of a READ eligible for delivery: its FULL buffer with the lowest block, while none of its buffers
is DRAINING-TO-HOST (R129). -/
def eligibleFull (s : State) (entry : Nat) : Option (Nat × Buffer) :=
  if hasDraining s entry then none else pickLeast (fun x => x.2.block) (fullBuffers s entry)

/-- The eligible buffer of a port's ACTIVE request: a LOADING buffer of the prefetch entry for a WRITE, the eligible
FULL buffer for a READ (R133, step 1). -/
def activeWork (s : State) (e : Engine) (r : Request) : Option (Nat × Buffer) :=
  match r.operation with
  | .write _ =>
    if e.prefetch.map Prefetch.entry = some r.index then
      pickLeast (fun x => x.2.block) (loadingBuffers s r.index)
    else none
  | .read _ => eligibleFull s r.index
  | _ => none

/-- The buffer an engine with no current buffer takes (R133). -/
def engineWork (s : State) (p : Port) : Option (Nat × Buffer) :=
  let e := s.engines.get p
  let mine := s.requests.filter fun r => decide (r.port = p) && decide (e.givenUp ≠ some r.index)
  match (mine.find? Request.isActive).bind (activeWork s e) with
  | some x => some x
  | none => (mine.filter Request.isDraining).findSome? fun r => eligibleFull s r.index

/-- The bus requested for the next burst: the host-bus timer started from its setting (R135, R137). -/
def requestBus (p : Port) (s : State) : State :=
  s.modifyEngine p fun e => { e with state := .requesting, timer := some s.settings.hostBusTimeout }

/-- The state of a buffer that an engine takes: a FULL buffer enters DRAINING-TO-HOST with words moved 0, a LOADING
buffer stays LOADING (R133). -/
def Buffer.taken (b : Buffer) : Buffer :=
  match b.state with
  | .full data => { b with state := .draining 0 data }
  | _ => b

/-- The choice of a port's engine: with no current buffer it takes its next work and requests its bus, and
without work it is IDLE; a port held in reset requests no bus (R133, R179). -/
def chooseWork (p : Port) (s : State) : State :=
  if (s.engines.get p).current = none ∧ s.initLine.get p = false then
    match engineWork s p with
    | none => s
    | some (i, b) =>
      requestBus p ((setBuffer i (some b.taken) s).modifyEngine p fun e => { e with current := some i })
  else s

/-! ### The order inside an event -/

/-- A function applied for each port in turn. -/
def forPorts (f : Port → State → State) (s : State) : State := f .d (f .c (f .b (f .a s)))

/-- What ends an event that freed a buffer, made one eligible, made a request READY or brought the sequencer to
IDLE: the scheduler runs, then the ACTIVE WRITE's engine claims, then every engine without a buffer chooses
(R82, R126, R127, R133; log 13). -/
def settle (s : State) : State :=
  let s1 := runScheduler (s.requests.length + 1) s
  let s2 := forPorts (fun p => prefetchPort p (Config.buffersPerRequest + 1)) s1
  forPorts chooseWork s2

end Sys2Proof.Machine
end

