-- ==== Sys2Proof/Machine/PortReset.lean ====
section
/-! DEFINITION. Port reset (R180) as one shared operation, and the commands that reset: POWER_ON_RESET, INIT_ASSERTED,
INIT_NEGATED and RESET. -/

namespace Sys2Proof.Machine

/-- An ACTIVE request becomes ORPHANED: its stop pending is discarded, its buffers but the one serving the block in
progress are freed, and the sequencer, told of the orphan, takes the stop at once where R116 says so (R76, R117,
R138). -/
def orphanRequest (i : Nat) (s : State) : State :=
  takeStop
    (modifyService (fun v => { v with orphan := true, stopAsked := true })
      (freeBuffers (fun b => decide (b.entry = i) && !b.servesMedium)
        (updateRequest i (fun r => { r with state := .orphaned }) s)))

/-- Port reset of port `p` reaches one entry of the Request Table (R79). -/
def resetRequest (p : Port) (s : State) (i : Nat) : State :=
  match findRequest s i with
  | none => s
  | some r =>
    if r.port = p then
      match r.state with
      | .active _ => orphanRequest i s
      | .orphaned => s
      | _ => freeRequest i s
    else s

/-- Port reset of port `p` in the Request Table and the Buffer Pool (R180, steps 2 and 3). -/
def resetRequests (p : Port) (s : State) : State :=
  (s.requests.map Request.index).foldl (resetRequest p) s

/-- A Lock Table entry owned by port `p` becomes FREE with its generation (R39). -/
def LockEntry.resetPort (p : Port) (e : LockEntry) : LockEntry :=
  match e.state with
  | .free => e
  | .held lock _ => if lock.owner = p then ⟨e.generation, .free⟩ else e
  | .ended lock _ => if lock.owner = p then ⟨e.generation, .free⟩ else e

/-- Port reset of port `p` in the Lock Unit, before the re-examination (R39, R53). -/
def resetLocks (p : Port) (s : State) : State :=
  (s.withLocks (s.locks.map (LockEntry.resetPort p))).withWaiters
    (s.waiters.filter fun w => decide (w.lock.owner ≠ p))

/-- Port reset of port `p` in its own window, engine, watches, queues, enables and window base, and of the token when
it holds it (R180, steps 1, 3 and 5 to 8). -/
def resetPortState (p : Port) (s : State) : State :=
  let s1 := s.setWindow p .reset
  let s2 := s1.withEngines (s1.engines.set p .reset)
  let s3 := s2.withWatches (s2.watches.set p [none, none, none, none])
  let s4 := s3.withCompletions (s3.completions.set p [])
  let s5 := s4.withPendingRecords (s4.pendingRecords.set p [])
  let s6 := s5.withNotices (s5.notices.set p ⟨[], false⟩)
  let s7 := s6.withEnables (s6.enables.set p ⟨false, false, false⟩)
  let s8 := s7.withWindowBase (s7.windowBase.set p 0)
  s8.withToken (if s8.token = some p then none else s8.token)

/-- Port reset of port `p`, in one event: the Request Table and buffers, the port's own state, the locks and waiters,
then the one re-examination; what the event makes due follows (R180). -/
def portReset (p : Port) (s : State) : State :=
  settle (reexamine (resetLocks p (resetPortState p (resetRequests p s))))

/-- A rising READY: the fault hold stops, RECALIBRATE is issued and the sequencer enters RECALIBRATING. It is taken in
OFFLINE and HOLDING; READY cannot rise in another state (R96). -/
def riseReady (s : State) : State :=
  let s1 := s.modifyDrive fun d => { d with ready := true }
  match s.sequencer.state with
  | .offline =>
    issueRecalibrate .recalibrating (s1.modifySequencer fun q => { q with faultHoldTimer := none })
  | .holding =>
    issueRecalibrate .recalibrating (s1.modifySequencer fun q => { q with faultHoldTimer := none })
  | _ => s1

/-- POWER_ON_RESET: every unit takes its power-on values; at its end READY is sampled, an asserted READY counting as a
rising one, and a port whose INIT is asserted is held in reset (R7, R95, R179). -/
def execPowerOnReset (ready writeProtect initA initB initC initD : Bool) (s : State) : Result :=
  let s1 := senseWriteProtect writeProtect
    ((State.reset.withPending s.pending).withInitLine ⟨initA, initB, initC, initD⟩)
  .next (if ready then riseReady s1 else s1)

/-- INIT_ASSERTED: one port reset, and the port is held in reset. An INIT already asserted is not asserted again
(R179). -/
def execInitAsserted (p : Port) (s : State) : Result :=
  .next (if s.initLine.get p then s else portReset p (s.withInitLine (s.initLine.set p true)))

/-- INIT_NEGATED: the port takes window writes again (R179). -/
def execInitNegated (p : Port) (s : State) : Result := .next (s.withInitLine (s.initLine.set p false))

/-- RESET: one port reset, disregarded while the port is held in reset (R179). -/
def execReset (p : Port) (_value : Word) (s : State) : Result := .next (windowWrite p (portReset p) s)

end Sys2Proof.Machine
end

