-- ==== Sys2Proof/Machine/DriveEvents.lean ====
section
/-! DEFINITION. The events of the drive port and the sequencer's timers (chapters 1 and 6). Each drive event first
brings the WRITE PROTECT level standing at it (log 6). -/

namespace Sys2Proof.Machine

/-- The rotational position replaced (R10). -/
def setPosition (position : Option Nat) (s : State) : State :=
  s.modifySequencer fun q => { q with position := position }

/-- The request being served. -/
def servedRequest (s : State) : Option Request := s.sequencer.service.bind fun v => findRequest s v.entry

/-- Whether the request being served is a READ or a VERIFY, whose data field is read (R107). -/
def readsField (s : State) : Bool :=
  match (servedRequest s).map Request.operation with
  | some (.read _) => true
  | some .verify => true
  | _ => false

/-! ### READY (R96, R98, R99) -/

/-- RISING_READY (R96). READY cannot rise while it is asserted. -/
def execRisingReady (writeProtect : Bool) (s : State) : Result :=
  let s0 := senseWriteProtect writeProtect s
  .next (if s0.drive.ready then s0 else riseReady s0)

/-- HOLDING entered, the fault-hold timer started from its setting (R98, R121). -/
def enterHolding (s : State) : State :=
  s.modifySequencer fun q =>
    { q with
      state := .holding
      positioningTimer := none
      faultHoldTimer := some s.settings.faultHold }

/-- What a falling READY does in every state: the position becomes UNKNOWN, WRITE GATE is removed, and no positioning
command is outstanding (R99). -/
def loseReady (s : State) : State :=
  (s.modifyDrive fun d => { d with ready := false, writeGate := false, writeData := [] }).modifySequencer fun q =>
    { q with position := none, outstanding := none, positioningTimer := none }

/-- FALLING_READY (R99). READY cannot fall while it is negated. -/
def execFallingReady (writeProtect : Bool) (s : State) : Result :=
  let s0 := senseWriteProtect writeProtect s
  .next
    (if s0.drive.ready then
      let s1 := loseReady s0
      match s0.sequencer.state with
      | .offline => s1
      | .holding => s1
      | .recalibrating => enterHolding s1
      | .idle => enterHolding s1
      | _ => settle (enterHolding (endOnMedium (.failed .driveNotReady none) .holding s1))
    else s0)

/-- FAULT_HOLD_EXPIRY: in HOLDING the sequencer enters OFFLINE and reports it to the Request Table (R78, R98). With no
timer running there is no expiry. -/
def execFaultHoldExpiry (s : State) : Result :=
  .next
    (if s.sequencer.state = .holding ∧ s.sequencer.faultHoldTimer.isSome then
      offlineReport (s.modifySequencer fun q => { q with state := .offline, faultHoldTimer := none })
    else s)

/-! ### FORMAT TRACK at its marks (R119) -/

/-- The block of a FORMAT TRACK whose fields are being written, the last begun (R119). -/
def Service.blockBegun (v : Service) : Nat := v.current + v.written - 1

/-- The fields of the block that a mark begins, from the request's parameters (R119). -/
def sectorBytes (r : Request) (block : Nat) : List Byte :=
  match r.operation with
  | .format defects fill => formatSector (cylinderOf r.first) (headOf r.first) block defects fill
  | _ => []

/-- The BLOCK MARK of the next block of a FORMAT TRACK: WRITE GATE asserted or held, written blocks raised by one, and
the block's fields recorded (R119). -/
def beginFormatBlock (v : Service) (s : State) : State :=
  match findRequest s v.entry with
  | none => s
  | some r =>
    assertWriteGate (sectorBytes r v.written)
      (modifyService (fun w => { w with written := w.written + 1, phase := .writing }) s)

/-! ### INDEX and BLOCK_MARK (R9, R10, R103, R119) -/

/-- An INDEX taken in SEARCHING: a header being read is incomplete, and the second pass ends the search (R14, R103). -/
def indexInSearch (s : State) : State :=
  match s.sequencer.service with
  | none => s
  | some v =>
    if 1 ≤ v.indexPasses then settle (failCurrent .headerNotFound s)
    else modifyService (fun w => { w with indexPasses := w.indexPasses + 1, headerReading := false }) s

/-- An INDEX taken in FORMATTING: the first begins the track; one taken while WRITE GATE is asserted cuts it (R119). -/
def indexInFormat (s : State) : State :=
  match s.sequencer.service with
  | none => s
  | some v =>
    match v.phase with
    | .waitIndex => modifyService (fun w => { w with phase := .begun }) s
    | .begun => s
    | .writing => settle (failOnMedium .headerNotFound v.blockBegun s)
    | .gap => settle (failOnMedium .headerNotFound (v.current + v.written) s)

/-- INDEX: disregarded while READY is negated; else the position becomes 0, and the sequencer takes it in SEARCHING,
TRANSFERRING (where it leaves a field being read incomplete) and FORMATTING (R9, R10, R14). -/
def execIndex (writeProtect : Bool) (s : State) : Result :=
  let s0 := senseWriteProtect writeProtect s
  .next
    (if s0.drive.ready then
      let s1 := setPosition (some 0) s0
      match s1.sequencer.state with
      | .searching => indexInSearch s1
      | .transferring => if readsField s1 then settle (dataCheckError s1) else s1
      | .formatting => indexInFormat s1
      | _ => s1
    else s0)

/-- The position after a BLOCK MARK (R10). -/
def positionAfterMark (position : Option Nat) : Option Nat :=
  position.map fun p => (p + 1) % Config.blocksPerTrack

/-- A BLOCK MARK taken in FORMATTING: it begins the next block, or cuts the track when it comes out of turn (R119). -/
def markInFormat (s : State) : State :=
  match s.sequencer.service with
  | none => s
  | some v =>
    match v.phase with
    | .waitIndex => s
    | .begun => beginFormatBlock v s
    | .writing => settle (failOnMedium .headerNotFound v.blockBegun s)
    | .gap => beginFormatBlock v s

/-- BLOCK_MARK: disregarded while READY is negated; else the position advances, and the sequencer begins a header read
in SEARCHING, has a field being read left incomplete in TRANSFERRING, and begins a block in FORMATTING (R9, R10, R14,
R103). -/
def execBlockMark (writeProtect : Bool) (s : State) : Result :=
  let s0 := senseWriteProtect writeProtect s
  .next
    (if s0.drive.ready then
      let s1 := setPosition (positionAfterMark s0.sequencer.position) s0
      match s1.sequencer.state with
      | .searching => modifyService (fun v => { v with headerReading := true }) s1
      | .transferring => if readsField s1 then settle (dataCheckError s1) else s1
      | .formatting => markInFormat s1
      | _ => s1
    else s0)

/-! ### HEADER_READ (R104 to R106) -/

/-- The state of the sequencer changed to TRANSFERRING with a service record (R105). -/
def enterTransferring (v : Service) (s : State) : State :=
  s.modifySequencer fun q => { q with state := .transferring, service := some v }

/-- A READ at its target header: its kept buffer, or a claim; a claim not granted is a slip (R105, R106, R125). -/
def readAtHeader (v : Service) (r : Request) (s : State) : State :=
  match v.buffer with
  | some _ => enterTransferring v s
  | none =>
    if (boundBuffers s r.index).length < Config.buffersPerRequest then
      match lowestFreeBuffer s with
      | none => s
      | some i =>
        enterTransferring { v with buffer := some i } (setBuffer i (some ⟨r.index, v.current, .filling⟩) s)
    else s

/-- The LOADED buffer of a WRITE for a block, with its index and data. -/
def loadedBuffer (s : State) (entry block : Nat) : Option (Nat × List Word) :=
  (boundBuffers s entry).findSome? fun x =>
    match x.2.state with
    | .loaded data => if x.2.block = block then some (x.1, data) else none
    | _ => none

/-- A WRITE at its target header: WRITE PROTECT is sampled when the block's buffer is LOADED, and negated, WRITE GATE is
asserted; no LOADED buffer is a slip (R8, R105, R106). -/
def writeAtHeader (v : Service) (r : Request) (s : State) : State :=
  match loadedBuffer s r.index v.current with
  | none => s
  | some (i, data) =>
    if s.drive.writeProtect then settle (failCurrent .writeProtected s)
    else
      assertWriteGate (dataField data)
        (enterTransferring { v with written := v.written + 1 }
          (setBuffer i (some ⟨r.index, v.current, .writing data⟩) s))

/-- The target header: index passes 0, the DEFECTIVE flag first, then as the operation requires (R104, R105). -/
def targetHeader (h : Header) (v : Service) (r : Request) (s : State) : State :=
  let w := { v with indexPasses := 0 }
  let s1 := s.modifySequencer fun q => { q with service := some w }
  if h.defective then settle (failCurrent .defectiveBlock s1)
  else
    match r.operation with
    | .read _ => readAtHeader w r s1
    | .write _ => writeAtHeader w r s1
    | .verify => enterTransferring w s1
    | .format .. => s1

/-- Whether a header names the believed cylinder and the selected head, with a block of the track (R10, R104). -/
def Header.belongs (h : Header) (q : Sequencer) : Bool :=
  decide (some h.cylinder = q.believed) && decide (h.head = q.head) && decide (h.block < Config.blocksPerTrack)

/-- A header read in SEARCHING: disregarded on a check error, a mismatch when it names another place, else the position
is fixed from it, and it is passed over or taken as the target header (R10, R104). -/
def headerInSearch (field : List Byte) (v : Service) (s : State) : State :=
  match readHeader field with
  | none => s
  | some h =>
    if h.belongs s.sequencer then
      let s1 := setPosition (some ((h.block + 1) % Config.blocksPerTrack)) s
      if h.block = blockOf v.current then
        match findRequest s1 v.entry with
        | none => s1
        | some r => targetHeader h v r s1
      else s1
    else settle (headerMismatch s)

/-- HEADER_READ: a header field ends; it is dealt with in SEARCHING when its mark was taken there, and no header is read
otherwise (R103, R104). -/
def execHeaderRead (writeProtect : Bool) (field : List Byte) (s : State) : Result :=
  let s0 := senseWriteProtect writeProtect s
  .next
    (match s0.sequencer.service with
    | none => s0
    | some v =>
      if s0.sequencer.state = .searching ∧ v.headerReading = true then
        let w := { v with headerReading := false }
        headerInSearch field w (s0.modifySequencer fun q => { q with service := some w })
      else s0)

/-! ### DATA_FIELD_END (R107 to R109, R119) -/

/-- A block finished good: reported to the Request Table, then the sequencer goes on (R65, R110). -/
def blockFinished (retries : Nat) (s : State) : State := settle (advance (finishBlocks 1 retries s))

/-- The current buffer of a READ marked FULL with the bytes read, its bound entry and block kept, and no longer held by the
sequencer (R107, R128). -/
def fillBuffer (v : Service) (field : List Byte) (s : State) : State :=
  match v.buffer with
  | none => s
  | some i =>
    match bufferAt s i with
    | none => s
    | some b =>
      modifyService (fun w => { w with buffer := none })
        (setBuffer i (some { b with state := .full (dataFieldWords field) }) s)

/-- The data field of a READ or VERIFY ends: good, it is finished, the buffer of an orphan not becoming FULL; else it is a
data check error (R107, R109, R128). -/
def readFieldEnd (v : Service) (r : Request) (field : List Byte) (s : State) : State :=
  if dataFieldGood field then
    match r.operation with
    | .read _ => blockFinished v.retriesSpent (if v.orphan then s else fillBuffer v field s)
    | _ => blockFinished v.retriesSpent s
  else settle (dataCheckError s)

/-- The data field of a WRITE has been written: WRITE GATE removed, the buffer freed, the block finished with 0 retries
(R108). -/
def writeFieldEnd (v : Service) (s : State) : State :=
  blockFinished 0 (removeWriteGate (freeBuffers (fun b => decide (b.entry = v.entry) && b.servesMedium) s))

/-- The data field of a block of a FORMAT TRACK has been written: after block 11 the track is finished as one finish of 12
blocks, else the next mark is awaited with WRITE GATE held (R119). -/
def formatFieldEnd (v : Service) (s : State) : State :=
  if v.phase = .writing then
    if Config.blocksPerTrack ≤ v.written then
      settle (endOnMedium .finished .idle (finishBlocks Config.blocksPerTrack 0 (removeWriteGate s)))
    else assertWriteGate [] (modifyService (fun w => { w with phase := .gap }) s)
  else s

/-- DATA_FIELD_END: the data field of the current block ends, in TRANSFERRING or in FORMATTING; there is no such field
otherwise (R107, R108, R119). -/
def execDataFieldEnd (writeProtect : Bool) (field : List Byte) (s : State) : Result :=
  let s0 := senseWriteProtect writeProtect s
  .next
    (match s0.sequencer.service with
    | none => s0
    | some v =>
      match findRequest s0 v.entry with
      | none => s0
      | some r =>
        match s0.sequencer.state with
        | .transferring =>
          match r.operation with
          | .write _ => writeFieldEnd v s0
          | _ => readFieldEnd v r field s0
        | .formatting => formatFieldEnd v s0
        | _ => s0)

/-! ### SEEK_DONE, POSITIONING_TIME_LIMIT and SETTLE_EXPIRY (R11, R97, R101, R102, R116) -/

/-- The cylinder a positioning command brings the heads to (R11). -/
def Positioning.cylinder : Positioning → Nat
  | .seek cylinder => cylinder
  | .recalibrate => 0

/-- The positioning command stops being outstanding with its timer stopped (R11). -/
def endPositioning (s : State) : State :=
  s.modifySequencer fun q => { q with outstanding := none, positioningTimer := none }

/-- The recovery field of the service record replaced (R102). -/
def setRecovery (recovery : Recovery) (s : State) : State := modifyService (fun v => { v with recovery := recovery }) s

/-- A positioning command for a request has ended at its SEEK DONE: a stop asked is taken, a recovery takes its next step,
and the heads settle otherwise (R101, R102, R116). -/
def seekArrived (v : Service) (s : State) : State :=
  if v.stopAsked then settle (endOnMedium .stopped .idle s)
  else
    match v.recovery with
    | .recalibrateStep =>
      if v.target = 0 then enterSettling (setRecovery .used s)
      else issueSeek v.target (setRecovery .reSeekStep s)
    | .reSeekStep => enterSettling (setRecovery .used s)
    | _ => enterSettling s

/-- SEEK_DONE: disregarded with no positioning outstanding; else the believed cylinder is set, and the sequencer goes IDLE
from RECALIBRATING or on with its request from SEEKING (R11, R97, R101). -/
def execSeekDone (writeProtect : Bool) (s : State) : Result :=
  let s0 := senseWriteProtect writeProtect s
  .next
    (match s0.sequencer.outstanding with
    | none => s0
    | some positioning =>
      let s1 := (endPositioning s0).modifySequencer fun q => { q with believed := some positioning.cylinder }
      match s1.sequencer.state with
      | .recalibrating => settle (s1.modifySequencer fun q => { q with state := .idle })
      | .seeking =>
        match s1.sequencer.service with
        | none => s1
        | some v => seekArrived v s1
      | _ => s1)

/-- POSITIONING_TIME_LIMIT: the command is abandoned; RECALIBRATING enters OFFLINE, and SEEKING takes a stop asked or
handles a header mismatch. With no timer running there is no limit (R97, R101, R102, R116). -/
def execPositioningTimeLimit (s : State) : Result :=
  .next
    (if s.sequencer.positioningTimer.isSome ∧ s.sequencer.outstanding.isSome then
      let s1 := endPositioning s
      match s1.sequencer.state with
      | .recalibrating => offlineReport (s1.modifySequencer fun q => { q with state := .offline })
      | .seeking =>
        match s1.sequencer.service with
        | none => s1
        | some v =>
          if v.stopAsked then settle (endOnMedium .stopped .idle s1) else settle (headerMismatch s1)
      | _ => s1
    else s)

/-- SETTLE_EXPIRY: the sequencer enters SEARCHING, or FORMATTING for a FORMAT TRACK. With no timer running there is no
expiry (R101, R118). -/
def execSettleExpiry (s : State) : Result :=
  .next
    (if s.sequencer.state = .settling ∧ s.sequencer.settleTimer.isSome then
      let s1 := s.modifySequencer fun q => { q with settleTimer := none }
      match servedRequest s1 with
      | none => s1
      | some r => if r.operation.isFormat then settle (enterFormatting s1) else enterSearching s1
    else s)

end Sys2Proof.Machine
end

