-- ==== Sys2Proof/Machine/HostBus.lean ====
section
/-! DEFINITION. The host-bus events of a port engine: BUS_GRANT, BURST_END and HOST_BUS_TIMEOUT (chapter 7). -/

namespace Sys2Proof.Machine

/-- The words moved of a buffer (R123). -/
def Buffer.wordsMoved (b : Buffer) : Nat :=
  match b.state with
  | .draining moved _ => moved
  | .loading data => data.length
  | _ => 0

/-- The host address of a request; absent for VERIFY and FORMAT (R55). -/
def Operation.address : Operation → Nat
  | .read address => address
  | .write address => address
  | _ => 0

/-- The bus address of a host word: the buffer base above the host address plus 512 times the block's place in the request
plus twice the word's place in the block (R134). -/
def busAddress (base : BitVec 8) (hostAddress k w : Nat) : BitVec 32 :=
  (base ++ BitVec.ofNat 24 (hostAddress + 512 * k + 2 * w) : BitVec 32)

/-- The words a drain burst takes into the burst register (R135). -/
def burstOf (moved : Nat) (data : List Word) : List Word := (data.drop moved).take Config.burstWords

/-- BUS_GRANT: the timer stops and the engine moves one burst, reading the window base at the first burst of a buffer. A
grant with the bus request negated is released with no word moved (R134 to R136). After a host-bus timeout in whose event the engine
took other work and requested its bus again, the grant is taken as one for that new request (DEDUCED, unsafe: the first row
of R139 does not say; log 24). -/
def execBusGrant (p : Port) (s : State) : Result :=
  let e := s.engines.get p
  .next
    (if e.state = .requesting then
      match e.current.bind (bufferAt s) with
      | none => s
      | some b =>
        let base := if b.wordsMoved = 0 then s.windowBase.get p else e.bufferBase
        let address :=
          match findRequest s b.entry with
          | none => busAddress base 0 0 b.wordsMoved
          | some r => busAddress base r.operation.address (b.block - r.first) b.wordsMoved
        let register :=
          match b.state with
          | .draining moved data => burstOf moved data
          | _ => e.burstRegister
        s.modifyEngine p fun e =>
          { e with state := .moving, timer := none, bufferBase := base, burstAddress := address,
                   burstRegister := register }
    else s)

/-- An engine that has done with its current buffer. -/
def Engine.release (e : Engine) : Engine :=
  { e with state := .idle, current := none, withdrawn := false, timer := none }

/-- The Request Table takes the delivery of a block of a READ: blocks done rises, and a DRAINING READ whose good blocks are
all delivered enters HELD with its recorded outcome. In other states the report is disregarded (R69). -/
def deliveryReport (entry : Nat) (s : State) : State :=
  match findRequest s entry with
  | none => s
  | some r =>
    match r.operation, r.state with
    | .read _, .active _ => updateRequest entry (fun q => { q with blocksDone := q.blocksDone + 1 }) s
    | .read _, .draining status failing =>
      let s1 := updateRequest entry (fun q => { q with blocksDone := q.blocksDone + 1 }) s
      if r.blocksDone + 1 = r.mediumCount then enterHeld entry status failing s1 else s1
    | _, _ => s

/-- The end of a drain burst: at 256 words the buffer is freed and its delivery reported, else the bus is requested again
(R129, R135). -/
def drainBurstEnd (p : Port) (i : Nat) (b : Buffer) (moved : Nat) (data : List Word) (s : State) : State :=
  if Config.blockWords ≤ moved + Config.burstWords then
    deliveryReport b.entry (setBuffer i none (s.modifyEngine p Engine.release))
  else requestBus p (setBuffer i (some { b with state := .draining (moved + Config.burstWords) data }) s)

/-- The end of a load burst: its words are placed in the buffer, which at 256 words enters LOADED; else the bus is requested
again (R131, R135). -/
def loadBurstEnd (p : Port) (i : Nat) (b : Buffer) (data : List Word) (words : List Word) (s : State) : State :=
  let s1 := s.modifyEngine p fun e => { e with burstRegister := words }
  if Config.blockWords ≤ (data ++ words).length then
    setBuffer i (some { b with state := .loaded (data ++ words) }) (s1.modifyEngine p Engine.release)
  else requestBus p (setBuffer i (some { b with state := .loading (data ++ words) }) s1)

/-- BURST_END: a withdrawn burst changes no buffer; else words moved rise by 16 and the buffer may be done; an engine left
without a buffer chooses again. There is no burst to end but in MOVING (R135, R136). -/
def execBurstEnd (p : Port) (words : Vector Word 16) (s : State) : Result :=
  let e := s.engines.get p
  .next
    (if e.state = .moving then
      if e.withdrawn then settle (s.modifyEngine p Engine.release)
      else
        match e.current with
        | none => s
        | some i =>
          match bufferAt s i with
          | none => s
          | some b =>
            match b.state with
            | .draining moved data => settle (drainBurstEnd p i b moved data s)
            | .loading data => settle (loadBurstEnd p i b data words.toList s)
            | _ => s
    else s)

/-- The Request Table takes a host-bus timeout: a stop is asked of an ACTIVE request, a DRAINING READ enters HELD, and in
other states the report is disregarded (R70). -/
def timeoutReport (entry : Nat) (s : State) : State :=
  match findRequest s entry with
  | none => s
  | some r =>
    match r.state with
    | .active _ => askStop entry .hostBusTimeout s
    | .draining .. => enterHeld entry .hostBusTimeout none s
    | _ => s

/-- An engine gives up an entry: its bus request negated, the entry recorded, a waiting claim for it withdrawn and its
prefetch of it ended (R137, steps 1 and 3). -/
def Engine.giveUp (entry : Nat) (e : Engine) : Engine :=
  let e1 := e.release
  let e2 :=
    match e1.prefetch with
    | some f => if f.entry = entry then { e1 with prefetch := none, waitingClaim := none } else e1
    | none => e1
  { e2 with givenUp := some entry }

/-- HOST_BUS_TIMEOUT: in REQUESTING the engine gives up the request bound to its current buffer, the pool frees that
request's buffers but one serving the block in progress, and the Request Table takes the report. With no timer running
there is no timeout (R137). -/
def execHostBusTimeout (p : Port) (s : State) : Result :=
  let e := s.engines.get p
  .next
    (if e.state = .requesting ∧ e.timer.isSome then
      match e.current.bind (bufferAt s) with
      | none => s
      | some b =>
        settle
          (timeoutReport b.entry
            (freeBuffers (fun x => decide (x.entry = b.entry) && !x.servesMedium)
              (s.modifyEngine p (Engine.giveUp b.entry))))
    else s)

end Sys2Proof.Machine
end

