-- ==== Sys2Proof/Machine/LockCommands.lean ====
section
/-! DEFINITION. The commands and the tick that the Lock Unit takes: ACQUIRE, RENEW, RELEASE, FORCE RELEASE, WITHDRAW,
the lease tick, and the expiry of one lease and the denial of one waiter on their own (chapters 2 and 3). -/

namespace Sys2Proof.Machine

/-! ### ACQUIRE (R21 to R23, R43) -/

/-- The tests of an ACQUIRE's parameters in order (R21). -/
def acquireRefusal (p : Port) (extent : Extent) (mode : Option Mode) (s : State) : Option Response :=
  if extent.last < extent.first ∨ mode = none then some .badParameter
  else if Config.lastBlock < extent.last then some .outOfRange
  else if overlapsOwn s p extent then some .overlap
  else none

/-- The wait remaining of a new waiter: the wait limit, UNLIMITED for 255 (R43). -/
def waitOf (limit : Nat) : Option Nat := if limit = 255 then none else some limit

/-- An ACQUIRE handed to the Lock Wait Queue: QUEUED in the lowest empty slot, or WAIT FULL (R43). -/
def queueWaiter (lock : Lock) (limit : Nat) (s : State) : Answer :=
  match lowestEmptySlot s with
  | none => refuse .waitFull s
  | some slot => ⟨.queued slot, s.withWaiters (s.waiters ++ [⟨slot, lock, .waiting (waitOf limit)⟩])⟩

/-- An ACQUIRE that passed the tests of R21: granted at once, refused or queued (R22, R23). -/
def decideClaim (lock : Lock) (limit : Nat) (s : State) : Answer :=
  if conflictsWithHeld s lock || barredBy s.waiters lock then
    if limit = 0 then refuse .conflict s else queueWaiter lock limit s
  else
    match lowestFreeLock s with
    | none => if limit = 0 then refuse .tableFull s else queueWaiter lock limit s
    | some i =>
      let s1 := allocateLock i lock (.reported (startedLease s)) s
      ⟨.granted (handleAt s1 i), s1⟩

/-- The Lock Unit takes an ACQUIRE (R21). -/
def decideAcquire (p : Port) (command : List Word) (s : State) : Answer :=
  let extent := extentOf command 1
  match acquireRefusal p extent (modeOf (commandWord command 3)) s, modeOf (commandWord command 3) with
  | some r, _ => refuse r s
  | none, none => refuse .badParameter s
  | none, some mode => decideClaim ⟨p, extent, mode⟩ (lowByte (commandWord command 4)).toNat s

/-- ACQUIRE (R21). -/
def execAcquire (p : Port) (s : State) : Result :=
  .next (takeCommand p (fun c => decide (c = codeAcquire)) (decideAcquire p) s)

/-! ### RENEW, RELEASE and FORCE RELEASE (R18, R27, R31, R33) -/

/-- Tests 1 to 3 of a handle: the HELD lock it names, or the refusal (R18). -/
def handleTest (h : Handle) (s : State) : Except Response (Lock × Grant) :=
  match (lockAt s h.index).state with
  | .free => .error .notFound
  | .held lock grant =>
    if h.generation = (lockAt s h.index).generation then .ok (lock, grant) else .error .staleHandle
  | .ended _ _ =>
    if h.generation = (lockAt s h.index).generation then .error .notFound else .error .staleHandle

/-- The five tests of a handle that RENEW and RELEASE make: the reported lock of the port, or the refusal (R18). -/
def ownHandleTest (p : Port) (h : Handle) (s : State) : Except Response Lock :=
  match handleTest h s with
  | .error r => .error r
  | .ok (_, .unreported) => .error .notFound
  | .ok (lock, .reported _) => if lock.owner = p then .ok lock else .error .notOwner

/-- The Lock Unit takes a RENEW: the lease restarts from the lease-length setting (R27). -/
def decideRenew (p : Port) (h : Handle) (s : State) : Answer :=
  match ownHandleTest p h s with
  | .error r => refuse r s
  | .ok lock => ⟨.done, setLockState h.index (.held lock (.reported (startedLease s))) s⟩

/-- RENEW (R27). -/
def execRenew (p : Port) (s : State) : Result :=
  .next (takeCommand p (fun c => decide (c = codeRenew)) (fun cmd => decideRenew p (handleOf cmd)) s)

/-- The Lock Unit takes a RELEASE: refused while the lock is in use, else the entry is freed and the queue
re-examined (R31). -/
def decideRelease (p : Port) (h : Handle) (s : State) : Answer :=
  match ownHandleTest p h s with
  | .error r => refuse r s
  | .ok lock =>
    if lockInUse s p lock.extent then refuse .inUse s
    else ⟨.done, reexamine (setLockState h.index .free s)⟩

/-- RELEASE (R31). -/
def execRelease (p : Port) (s : State) : Result :=
  .next (takeCommand p (fun c => decide (c = codeRelease)) (fun cmd => decideRelease p (handleOf cmd)) s)

/-- The Lock Unit takes a FORCE RELEASE: with maintenance permission, a HELD lock of any port ceases with end kind
FORCED (R33 to R35). -/
def decideForceRelease (p : Port) (h : Handle) (s : State) : Answer :=
  if s.settings.maintenance.get p then
    match handleTest h s with
    | .error r => refuse r s
    | .ok (lock, .reported _) => ⟨.done, settle (reexamine (ceaseLock h.index lock .forced s))⟩
    | .ok (lock, .unreported) => ⟨.done, settle (reexamine (forceUnreported h.index lock s))⟩
  else refuse .notPermitted s

/-- FORCE_RELEASE (R33). -/
def execForceRelease (p : Port) (s : State) : Result :=
  .next (takeCommand p (fun c => decide (c = codeForceRelease)) (fun cmd => decideForceRelease p (handleOf cmd)) s)

/-! ### WITHDRAW (R51) -/

/-- The Lock Unit takes a WITHDRAW of a waiter number (R51). -/
def decideWithdraw (p : Port) (number : Nat) (s : State) : Answer :=
  if 7 < number then refuse .badParameter s
  else
    match findWaiter s number with
    | none => refuse .notFound s
    | some w =>
      if w.lock.owner = p ∧ w.isWaiting = true then ⟨.done, reexamine (removeWaiter number s)⟩
      else refuse .notFound s

/-- WITHDRAW (R51). -/
def execWithdraw (p : Port) (s : State) : Result :=
  .next
    (takeCommand p (fun c => decide (c = codeWithdraw)) (fun cmd => decideWithdraw p (commandWord cmd 1).toNat) s)

/-! ### The lease tick (R24, R26, R28, R48, R49) -/

/-- The tick taken by the leases, entry by entry in ascending order of index (R24, R26). -/
def tickLeases (s : State) : State := (List.range Config.lockEntries).foldl tickLease s

/-- The tick taken by the waiters, in arrival order (R48). -/
def tickWaiters (s : State) : State := s.waiters.foldl tickWaiter s

/-- LEASE_TICK: the leases are lowered, one re-examination follows any expiries, then the wait limits are counted down
and one re-examination follows any denials (R24, R48, R49). -/
def execLeaseTick (s : State) : Result :=
  let expired := s.locks.any LockEntry.expiring
  let s1 := tickLeases s
  let s2 := if expired then reexamine s1 else s1
  let denied := s2.waiters.any Waiter.expiring
  let s3 := tickWaiters s2
  let s4 := if denied then reexamine s3 else s3
  .next (if expired then settle s4 else s4)

/-- LEASE_EXPIRY: the lease of one entry, at its last tick, reaches 0, and the expiry is carried through with its own
re-examination (R28). With no lease at its last tick there is no expiry (log 4). -/
def execLeaseExpiry (entry : Fin 16) (s : State) : Result :=
  .next
    (if (lockAt s entry.val).expiring then settle (reexamine (tickLease s entry.val)) else s)

/-- WAIT_DENIAL: the wait of the waiter in one slot, at its last tick, reaches 0: it is denied, and one re-examination
follows (R48, R49). With no wait at its last tick there is no denial (log 4). -/
def execWaitDenial (slot : Fin 8) (s : State) : Result :=
  .next
    (match findWaiter s slot.val with
    | none => s
    | some w => if w.expiring then reexamine (denyWaiter w s) else s)

end Sys2Proof.Machine
end

