-- ==== Sys2Proof/Machine/Records.lean ====
section
/-! DEFINITION. The postings of completion records (chapter 8), and the write reports, notices and watches of the Watch
List (chapter 9). -/

namespace Sys2Proof.Machine

/-! ### POSTING (R141, R145 to R147) -/

/-- Whether a posting is due at a port: its queue holds fewer than 8 records and its list is not empty (R145). -/
def postingDue (s : State) (p : Port) : Bool :=
  decide ((s.completions.get p).length < Config.completionCapacity) && !(s.pendingRecords.get p).isEmpty

/-- The record formed from an owner entry and the state with the owner entry changed, or nothing where the entry is in
no pending state, which cannot arise (R141, R147). -/
def postItem (item : OwnerRef) (s : State) : Option (Record × State) :=
  match item with
  | .request i =>
    match findRequest s i with
    | none => none
    | some r =>
      match r.state with
      | .held status failing =>
        some (.transferDone r.tag status r.blocksDone r.retriesUsed failing, removeRequest i s)
      | _ => none
  | .lock i =>
    match (lockAt s i).state with
    | .held lock .unreported =>
      some (.lockGranted (handleAt s i), setLockState i (.held lock (.reported (startedLease s))) s)
    | .ended _ .expired => some (.lockExpired (handleAt s i), reexamine (setLockState i .free s))
    | .ended _ .forced => some (.lockForced (handleAt s i), reexamine (setLockState i .free s))
    | _ => none
  | .waiter slot =>
    match findWaiter s slot with
    | none => none
    | some w =>
      match w.state with
      | .denied => some (.lockDenied slot, reexamine (removeWaiter slot s))
      | _ => none

/-- A posting at port `p`: the oldest item leaves the list, its record joins the queue, and its owner entry is changed
(R146). -/
def postRecord (p : Port) (s : State) : State :=
  if (s.completions.get p).length < Config.completionCapacity then
    match s.pendingRecords.get p with
    | [] => s
    | item :: rest =>
      match postItem item (s.withPendingRecords (s.pendingRecords.set p rest)) with
      | none => s
      | some (record, s1) => s1.withCompletions (s1.completions.set p (s1.completions.get p ++ [record]))
  else s

/-- POSTING: a due posting is taken; with none due there is none (R145, R146). -/
def execPosting (p : Port) (s : State) : Result := .next (postRecord p s)

/-! ### WRITE_REPORT (R158, R159) -/

/-- A notice is offered to the queue of port `p`: it joins at the tail, or is dropped at a full queue with NOTICE LOST
set (R159). -/
def offerNotice (p : Port) (s : State) (n : Notice) : State :=
  let q := s.notices.get p
  if q.queue.length < Config.noticeCapacity then
    s.withNotices (s.notices.set p { q with queue := q.queue ++ [n] })
  else s.withNotices (s.notices.set p { q with lost := true })

/-- The notices of a report for the watches of one port, in ascending order of watch number (R158). -/
def matchingNotices (report : WriteReport) (watches : List (Option Extent)) : List Notice :=
  watches.zipIdx.filterMap fun x =>
    match x.1 with
    | some e =>
      if e.overlaps report.extent then some ⟨x.2, report.writer, e.intersection report.extent, report.kind⟩ else none
    | none => none

/-- A write report reaches one port: nothing for the writer port, else its matching watches' notices are offered
(R158). -/
def reportToPort (report : WriteReport) (p : Port) (s : State) : State :=
  if p = report.writer then s
  else (matchingNotices report (s.watches.get p)).foldl (offerNotice p) s

/-- WRITE_REPORT: the Watch List takes the oldest write report; with none made there is none to take (R157, R158). -/
def execWriteReport (s : State) : Result :=
  .next
    (match s.writeReports with
    | [] => s
    | report :: rest =>
      reportToPort report .d
        (reportToPort report .c (reportToPort report .b (reportToPort report .a (s.withWriteReports rest)))))

/-! ### WATCH and UNWATCH (R155, R156) -/

/-- The EMPTY watch slot with the lowest number (R155). -/
def lowestEmptyWatch (watches : List (Option Extent)) : Option Nat := watches.findIdx? Option.isNone

/-- The Watch List takes a WATCH (R155). -/
def decideWatch (p : Port) (extent : Extent) (s : State) : Answer :=
  if extent.last < extent.first then refuse .badParameter s
  else if Config.lastBlock < extent.last then refuse .outOfRange s
  else
    match lowestEmptyWatch (s.watches.get p) with
    | none => refuse .watchFull s
    | some n => ⟨.doneWatch n, s.withWatches (s.watches.set p ((s.watches.get p).set n (some extent)))⟩

/-- WATCH (R155). -/
def execWatch (p : Port) (s : State) : Result :=
  .next (takeCommand p (fun c => decide (c = codeWatch)) (fun cmd => decideWatch p (extentOf cmd 1)) s)

/-- The Watch List takes an UNWATCH (R156). -/
def decideUnwatch (p : Port) (number : Nat) (s : State) : Answer :=
  if 3 < number then refuse .badParameter s
  else
    match (s.watches.get p).getD number none with
    | none => refuse .notFound s
    | some _ => ⟨.done, s.withWatches (s.watches.set p ((s.watches.get p).set number none))⟩

/-- UNWATCH (R156). -/
def execUnwatch (p : Port) (s : State) : Result :=
  .next (takeCommand p (fun c => decide (c = codeUnwatch)) (fun cmd => decideUnwatch p (commandWord cmd 1).toNat) s)

end Sys2Proof.Machine
end

