-- ==== Sys2Proof/Machine/SharedSettings.lean ====
section
/-! DEFINITION. The commands the Shared Settings own: the configuration token and the settings (chapter 10). -/

namespace Sys2Proof.Machine

/-- The Shared Settings take a CLAIM TOKEN (R165). -/
def decideClaimToken (p : Port) (s : State) : Answer :=
  match s.token with
  | none => ⟨.done, s.withToken (some p)⟩
  | some holder => if holder = p then ⟨.done, s⟩ else refuse (.tokenHeld holder) s

/-- CLAIM_TOKEN (R165). -/
def execClaimToken (p : Port) (s : State) : Result :=
  .next (takeCommand p (fun c => decide (c = codeClaimToken)) (fun _ => decideClaimToken p) s)

/-- The Shared Settings take a RELEASE TOKEN (R166). -/
def decideReleaseToken (p : Port) (s : State) : Answer :=
  if s.token = some p then ⟨.done, s.withToken none⟩ else refuse .noToken s

/-- RELEASE_TOKEN (R166). -/
def execReleaseToken (p : Port) (s : State) : Result :=
  .next (takeCommand p (fun c => decide (c = codeReleaseToken)) (fun _ => decideReleaseToken p) s)

/-- Whether a value lies in the range of an item (Table 10.1, R182). -/
def Item.inRange : Item → Nat → Bool
  | .quota _, v => decide (v ≤ 32)
  | .maintenance _, v => decide (v ≤ 1)
  | .leaseLength, v => decide (v ≤ 255)
  | .retryCount, v => decide (v ≤ 7)
  | .settleTime, v => decide (1 ≤ v) && decide (v ≤ 15)
  | .faultHold, v => decide (1 ≤ v) && decide (v ≤ 15)
  | .hostBusTimeout, v => decide (1 ≤ v) && decide (v ≤ 255)

/-- One setting replaced by a value (R167). -/
def Settings.setItem (t : Settings) (item : Item) (v : Nat) : Settings :=
  match item with
  | .quota q => { t with quota := t.quota.set q v }
  | .maintenance q => { t with maintenance := t.maintenance.set q (decide (v = 1)) }
  | .leaseLength => { t with leaseLength := v }
  | .retryCount => { t with retryCount := v }
  | .settleTime => { t with settleTime := v }
  | .faultHold => { t with faultHold := v }
  | .hostBusTimeout => { t with hostBusTimeout := v }

/-- The sum of the four quotas (R168). -/
def quotaSum (q : PortMap Nat) : Nat := q.a + q.b + q.c + q.d

/-- The quota test: with the new value the four quotas are together at most 32; other items pass it (R167, R168). -/
def quotaTest (t : Settings) (item : Item) (v : Nat) : Bool :=
  match item with
  | .quota q => decide (quotaSum (t.quota.set q v) ≤ Config.quotaTotal)
  | _ => true

/-- The Shared Settings take a SET SETTING: the token, item, range and quota tests in order (R167). -/
def decideSetSetting (p : Port) (itemWord : Word) (v : Nat) (s : State) : Answer :=
  if s.token = some p then
    match itemOf itemWord with
    | none => refuse .badParameter s
    | some item =>
      if item.inRange v && quotaTest s.settings item v then ⟨.done, s.withSettings (s.settings.setItem item v)⟩
      else refuse .badParameter s
  else refuse .noToken s

/-- SET_SETTING (R167). -/
def execSetSetting (p : Port) (s : State) : Result :=
  .next
    (takeCommand p (fun c => decide (c = codeSetSetting))
      (fun cmd => decideSetSetting p (commandWord cmd 1) (commandWord cmd 2).toNat) s)

/-- READ_SETTINGS: every setting and the token holder as they stand (R170). -/
def execReadSettings (p : Port) (s : State) : Result :=
  .next
    (takeCommand p (fun c => decide (c = codeReadSettings)) (fun _ s => ⟨.doneSettings s.settings s.token, s⟩) s)

end Sys2Proof.Machine
end

