-- ==== Sys2Proof/Machine/Transfers.lean ====
section
/-! DEFINITION. The commands the Request Table owns: READ, WRITE, VERIFY, FORMAT TRACK and CANCEL (chapter 4). -/

namespace Sys2Proof.Machine

/-- Check 1 of acceptance: the count, an even host address, the head and the defect mask (Table 4.2). -/
def Transfer.parametersGood : Transfer → Bool
  | .read _ _ count address => decide (1 ≤ count) && decide (count ≤ Config.maxCount) && decide (address % 2 = 0)
  | .write _ _ count address => decide (1 ≤ count) && decide (count ≤ Config.maxCount) && decide (address % 2 = 0)
  | .verify _ _ count => decide (1 ≤ count) && decide (count ≤ Config.maxCount)
  | .format _ _ head mask _ => decide (head ≤ 1) && decide (mask.extractLsb' 12 4 = 0)

/-- Check 2 of acceptance: the blocks, or the cylinder, are in range (Table 4.2). -/
def Transfer.inRange : Transfer → Bool
  | .read _ first count _ => decide (first ≤ Config.lastBlock) && decide (first + count - 1 ≤ Config.lastBlock)
  | .write _ first count _ => decide (first ≤ Config.lastBlock) && decide (first + count - 1 ≤ Config.lastBlock)
  | .verify _ first count => decide (first ≤ Config.lastBlock) && decide (first + count - 1 ≤ Config.lastBlock)
  | .format _ cylinder _ _ _ => decide (cylinder ≤ Config.lastCylinder)

/-- Check 3 of acceptance: the host addresses of READ and WRITE are in range (Table 4.2). -/
def Transfer.hostInRange : Transfer → Bool
  | .read _ _ count address => decide (address + count * Config.dataBytes ≤ Config.hostAddressLimit)
  | .write _ _ count address => decide (address + count * Config.dataBytes ≤ Config.hostAddressLimit)
  | _ => true

/-- Whether a request counts against its port's quota: every state but ORPHANED, FREE entries not being listed (R58). -/
def Request.counts (r : Request) : Bool := decide (r.state ≠ .orphaned)

/-- A port's count (R58). -/
def portCount (s : State) (p : Port) : Nat :=
  (s.requests.filter fun r => decide (r.port = p) && r.counts).length

/-- The FREE entry with the lowest index (R60). -/
def lowestFreeEntry (s : State) : Option Nat :=
  (List.range Config.requestEntries).find? (fun n => !(s.requests.any (fun r => decide (r.index = n))))

/-- The checks of acceptance in order; the first that fails gives the response (R59, Table 4.2). -/
def transferRefusal (p : Port) (t : Transfer) (s : State) : Option Response :=
  if !t.parametersGood then some .badParameter
  else if !t.inRange then some .outOfRange
  else if !t.hostInRange then some .hostRange
  else if s.requests.any (fun r => decide (r.port = p) && decide (r.tag = t.tag)) then some .duplicateTag
  else if !decide (portCount s p < s.settings.quota.get p) then some .quota
  else if (lowestFreeEntry s).isNone then some .tableFull
  else if s.sequencer.state = .offline then some .notReady
  else if !covered s p t then some .notLocked
  else if t.operation.isFormat && !s.settings.maintenance.get p then some .notPermitted
  else none

/-- The dependency set of a new request: the older requests of its port on the medium whose blocks overlap, where one
or both changes the medium (R61). -/
def dependenciesOf (p : Port) (t : Transfer) (s : State) : List Nat :=
  (s.requests.filter fun r =>
      decide (r.port = p) && r.onMedium && r.extent.overlaps t.extent &&
        (r.operation.changesMedium || t.operation.changesMedium)).map Request.index

/-- The entry filled at acceptance (R60, R61). -/
def newRequest (i : Nat) (p : Port) (t : Transfer) (s : State) : Request where
  index := i
  port := p
  tag := t.tag
  operation := t.operation
  first := t.first
  count := t.count
  dependencies := dependenciesOf p t s
  mediumCount := 0
  blocksDone := 0
  retriesUsed := 0
  passCount := 0
  state := if dependenciesOf p t s = [] then .ready else .waiting

/-- The acceptance of a transfer into entry `i`; a request that enters READY is told to the scheduler (R60, R61). -/
def acceptTransfer (i : Nat) (p : Port) (t : Transfer) (s : State) : State :=
  let s1 := s.withRequests (s.requests ++ [newRequest i p t s])
  if dependenciesOf p t s = [] then settle s1 else s1

/-- The Request Table takes a transfer command: it checks it and either refuses it or accepts it (R59, R60). -/
def decideTransfer (p : Port) (t : Transfer) (s : State) : Answer :=
  match transferRefusal p t s with
  | some r => refuse r s
  | none =>
    match lowestFreeEntry s with
    | none => refuse .tableFull s
    | some i => ⟨.accepted i, acceptTransfer i p t s⟩

/-- READ (R59). -/
def execRead (p : Port) (s : State) : Result :=
  .next (takeCommand p (fun c => decide (c = codeRead)) (fun cmd => decideTransfer p (readOf cmd)) s)

/-- WRITE (R59). -/
def execWrite (p : Port) (s : State) : Result :=
  .next (takeCommand p (fun c => decide (c = codeWrite)) (fun cmd => decideTransfer p (writeOf cmd)) s)

/-- VERIFY (R59). -/
def execVerify (p : Port) (s : State) : Result :=
  .next (takeCommand p (fun c => decide (c = codeVerify)) (fun cmd => decideTransfer p (verifyOf cmd)) s)

/-- FORMAT_TRACK (R59). -/
def execFormatTrack (p : Port) (s : State) : Result :=
  .next (takeCommand p (fun c => decide (c = codeFormatTrack)) (fun cmd => decideTransfer p (formatOf cmd)) s)

/-- The entry a CANCEL names: the port's entry with the tag, an ORPHANED one not looked at (R74). -/
def findTag (s : State) (p : Port) (tag : BitVec 8) : Option Request :=
  s.requests.find? fun r => decide (r.port = p) && decide (r.tag = tag) && r.counts

/-- The Request Table takes a CANCEL (R74). -/
def decideCancel (p : Port) (tag : BitVec 8) (s : State) : Answer :=
  match findTag s p tag with
  | none => refuse .notFound s
  | some r =>
    match r.state with
    | .waiting => ⟨.done, settle (enterHeld r.index .cancelled none s)⟩
    | .ready => ⟨.done, settle (enterHeld r.index .cancelled none s)⟩
    | .active none => ⟨.done, settle (askStop r.index .cancelled s)⟩
    | .active (some _) => ⟨.done, s⟩
    | _ => refuse .tooLate s

/-- CANCEL (R74). -/
def execCancel (p : Port) (s : State) : Result :=
  .next (takeCommand p (fun c => decide (c = codeCancel)) (fun cmd => decideCancel p (tagOf cmd)) s)

end Sys2Proof.Machine
end

