-- ==== Sys2Proof/Machine/Window.lean ====
section
/-! DEFINITION. The commands of the host port window itself: its writes and the one read with an effect (chapters 8, 9
and 11), and the command that no unit owns. -/

namespace Sys2Proof.Machine

/-- GO: in IDLE the staging words become the command in hand, the window BUSY and RESPONSE READY clear (R173); in BUSY
the new command is discarded and COMMAND OVERRUN is set (R174). -/
def execGo (p : Port) (_value : Word) (s : State) : Result :=
  .next
    (windowWrite p
      (fun s =>
        let w := s.windows.get p
        match w.state with
        | .idle => s.setWindow p { w with state := .busy w.staging, responseReady := false }
        | .busy _ => s.setWindow p { w with commandOverrun := true })
      s)

/-- STAGING_WORD_WRITE: a staging word takes the value; a write to a read-only word has no effect (R172). -/
def execStagingWordWrite (p : Port) (offset : Nat) (value : Word) (s : State) : Result :=
  .next
    (windowWrite p
      (fun s =>
        let w := s.windows.get p
        if 7 ≤ offset ∧ offset ≤ 14 then s.setWindow p { w with staging := w.staging.set (offset - 7) value }
        else s)
      s)

/-- STATUS_WORD_WRITE: bit 1 clears COMMAND OVERRUN and bit 2 clears NOTICE LOST (R161, R177). -/
def execStatusWordWrite (p : Port) (value : Word) (s : State) : Result :=
  .next
    (windowWrite p
      (fun s =>
        let w := s.windows.get p
        let n := s.notices.get p
        (s.setWindow p { w with commandOverrun := w.commandOverrun && !value.getLsbD 1 }).withNotices
          (s.notices.set p { n with lost := n.lost && !value.getLsbD 2 }))
      s)

/-- INTERRUPT_ENABLE_WORD_WRITE: the three enables take bits 0 to 2 (R151, R178). -/
def execInterruptEnableWordWrite (p : Port) (value : Word) (s : State) : Result :=
  .next (windowWrite p (fun s => s.withEnables (s.enables.set p (enablesOf value))) s)

/-- WINDOW_BASE_WORD_WRITE: the window base takes bits 7 to 0 (R178). -/
def execWindowBaseWordWrite (p : Port) (value : Word) (s : State) : Result :=
  .next (windowWrite p (fun s => s.withWindowBase (s.windowBase.set p (lowByte value))) s)

/-- RESPONSE_WORD_0_READ: returns response word 0 and clears RESPONSE READY (R176). -/
def execResponseWord0Read (p : Port) (s : State) : Result :=
  let w := s.windows.get p
  .next (s.setWindow p { w with responseReady := false, readData := w.response.getD 0 0 })

/-- COMPLETION_POP: the head record, if any, is discarded (R148). -/
def execCompletionPop (p : Port) (_value : Word) (s : State) : Result :=
  .next (windowWrite p (fun s => s.withCompletions (s.completions.set p (s.completions.get p).tail)) s)

/-- NOTICE_POP: the head notice, if any, is discarded; NOTICE LOST stays (R160). -/
def execNoticePop (p : Port) (_value : Word) (s : State) : Result :=
  .next
    (windowWrite p
      (fun s =>
        let n := s.notices.get p
        s.withNotices (s.notices.set p { n with queue := n.queue.tail }))
      s)

/-- UNKNOWN_COMMAND: a command in hand whose code names no command is answered by the port itself, with no other
effect (R175). -/
def execUnknownCommand (p : Port) (s : State) : Result :=
  .next (takeCommand p (fun code => !commandCodes.contains code) (fun _ s => refuse .unknownCommand s) s)

end Sys2Proof.Machine
end

