-- ==== Sys2Proof/Machine/Dispatch.lean ====
section
/-! DEFINITION. The meaning of every command, one arm for each row of the opcode table. -/

namespace Sys2Proof.Machine

/-- The effect of a command on everything but the queue of commands. -/
def exec (i : Instr) (s : State) : Host.Outcome State Fault Refusal :=
  match i with
  | .powerOnReset ready writeProtect initA initB initC initD => Sys2Proof.Machine.execPowerOnReset ready writeProtect initA initB initC initD s
  | .initAsserted p => Sys2Proof.Machine.execInitAsserted p s
  | .initNegated p => Sys2Proof.Machine.execInitNegated p s
  | .reset p value => Sys2Proof.Machine.execReset p value s
  | .go p value => Sys2Proof.Machine.execGo p value s
  | .stagingWordWrite p offset value => Sys2Proof.Machine.execStagingWordWrite p offset value s
  | .statusWordWrite p value => Sys2Proof.Machine.execStatusWordWrite p value s
  | .interruptEnableWordWrite p value => Sys2Proof.Machine.execInterruptEnableWordWrite p value s
  | .windowBaseWordWrite p value => Sys2Proof.Machine.execWindowBaseWordWrite p value s
  | .responseWord0Read p => Sys2Proof.Machine.execResponseWord0Read p s
  | .completionPop p value => Sys2Proof.Machine.execCompletionPop p value s
  | .noticePop p value => Sys2Proof.Machine.execNoticePop p value s
  | .read p => Sys2Proof.Machine.execRead p s
  | .write p => Sys2Proof.Machine.execWrite p s
  | .verify p => Sys2Proof.Machine.execVerify p s
  | .formatTrack p => Sys2Proof.Machine.execFormatTrack p s
  | .cancel p => Sys2Proof.Machine.execCancel p s
  | .acquire p => Sys2Proof.Machine.execAcquire p s
  | .renew p => Sys2Proof.Machine.execRenew p s
  | .release p => Sys2Proof.Machine.execRelease p s
  | .forceRelease p => Sys2Proof.Machine.execForceRelease p s
  | .withdraw p => Sys2Proof.Machine.execWithdraw p s
  | .watch p => Sys2Proof.Machine.execWatch p s
  | .unwatch p => Sys2Proof.Machine.execUnwatch p s
  | .claimToken p => Sys2Proof.Machine.execClaimToken p s
  | .releaseToken p => Sys2Proof.Machine.execReleaseToken p s
  | .setSetting p => Sys2Proof.Machine.execSetSetting p s
  | .readSettings p => Sys2Proof.Machine.execReadSettings p s
  | .unknownCommand p => Sys2Proof.Machine.execUnknownCommand p s
  | .leaseTick => Sys2Proof.Machine.execLeaseTick s
  | .leaseExpiry entry => Sys2Proof.Machine.execLeaseExpiry entry s
  | .waitDenial slot => Sys2Proof.Machine.execWaitDenial slot s
  | .posting p => Sys2Proof.Machine.execPosting p s
  | .writeReport => Sys2Proof.Machine.execWriteReport s
  | .risingReady writeProtect => Sys2Proof.Machine.execRisingReady writeProtect s
  | .fallingReady writeProtect => Sys2Proof.Machine.execFallingReady writeProtect s
  | .index writeProtect => Sys2Proof.Machine.execIndex writeProtect s
  | .blockMark writeProtect => Sys2Proof.Machine.execBlockMark writeProtect s
  | .headerRead writeProtect field => Sys2Proof.Machine.execHeaderRead writeProtect field s
  | .dataFieldEnd writeProtect field => Sys2Proof.Machine.execDataFieldEnd writeProtect field s
  | .seekDone writeProtect => Sys2Proof.Machine.execSeekDone writeProtect s
  | .positioningTimeLimit => Sys2Proof.Machine.execPositioningTimeLimit s
  | .settleExpiry => Sys2Proof.Machine.execSettleExpiry s
  | .faultHoldExpiry => Sys2Proof.Machine.execFaultHoldExpiry s
  | .busGrant p => Sys2Proof.Machine.execBusGrant p s
  | .burstEnd p words => Sys2Proof.Machine.execBurstEnd p words s
  | .hostBusTimeout p => Sys2Proof.Machine.execHostBusTimeout p s

end Sys2Proof.Machine
end

