-- ==== Sys2Proof/Safety.lean ====
section
/-! DEFINITION. What holds of a sound state of the part: the invariants that spec/ states of its tables, queues and
settings, and the relations between two states, in the terms the statements use. -/

namespace Sys2Proof.Safety

open Sys2Proof.Machine

/-! ### Invariants -/

/-- Every port's queues are within their capacities: at most 8 completion records and at most 4 notices (R144, R159). -/
def QueuesBounded (s : State) : Prop :=
  ∀ p : Port, (s.completions.get p).length ≤ Config.completionCapacity ∧
    (s.notices.get p).queue.length ≤ Config.noticeCapacity

/-- Every setting is within its range, and the four quotas together never exceed 32 (R164, R168, Table 10.1). -/
def SettingsInRange (s : State) : Prop :=
  quotaSum s.settings.quota ≤ Config.quotaTotal ∧ s.settings.leaseLength ≤ 255 ∧ s.settings.retryCount ≤ 7 ∧
    (1 ≤ s.settings.settleTime ∧ s.settings.settleTime ≤ 15) ∧ (1 ≤ s.settings.faultHold ∧ s.settings.faultHold ≤ 15) ∧
    (1 ≤ s.settings.hostBusTimeout ∧ s.settings.hostBusTimeout ≤ 255)

/-- The Lock Table has 16 entries, each with a generation of 0 to 15 (R15). -/
def LockTableShaped (s : State) : Prop :=
  s.locks.length = Config.lockEntries ∧ ∀ e ∈ s.locks, e.generation < 16

/-- No two HELD entries conflict: HELD locks of different ports overlap only where both are SHARED (R19). -/
def LocksCompatible (s : State) : Prop :=
  ∀ i j : Nat, ∀ x y : Lock, i ≠ j → (lockAt s i).heldLock = some x → (lockAt s j).heldLock = some y →
    x.conflicts y = false

/-- The pool has six buffers, and no request holds more than three of them (R123, R125). -/
def BuffersShared (s : State) : Prop :=
  s.buffers.length = Config.bufferCount ∧
    ∀ entry : Nat, (boundBuffers s entry).length ≤ Config.buffersPerRequest

/-- The rotational position is UNKNOWN or a block of the track, and the selected head is 0 or 1 (R10, R12). -/
def RotationSound (s : State) : Prop :=
  (∀ b : Nat, s.sequencer.position = some b → b < Config.blocksPerTrack) ∧ s.sequencer.head < 2

/-- The sequencer serves a request in these states (R94). -/
def serving : SequencerState → Bool
  | .seeking => true
  | .settling => true
  | .searching => true
  | .transferring => true
  | .formatting => true
  | _ => false

/-- The service record is present exactly while the sequencer serves a request (R93, R94). -/
def ServicePresent (s : State) : Prop := s.sequencer.service.isSome = serving s.sequencer.state

/-- In IDLE and while serving, the believed cylinder is known; and in IDLE no request stands READY (R82, R83, R94). -/
def WorkConserving (s : State) : Prop :=
  ((s.sequencer.state = .idle ∨ serving s.sequencer.state = true) → s.sequencer.believed.isSome = true) ∧
    (s.sequencer.state = .idle → readyRequests s = [])

/-- No two entries of the Request Table have one index, and no index is above 31 (R55). -/
def EntriesDistinct (s : State) : Prop :=
  (s.requests.map Request.index).Nodup ∧ ∀ r ∈ s.requests, r.index < Config.requestEntries

/-- Whether a request is ACTIVE or ORPHANED (R57). -/
def served (r : Request) : Bool := r.isActive || decide (r.state = .orphaned)

/-- A stop is asked in the service record exactly when its entry has a stop pending or is ORPHANED (R71, R115, R117). -/
def stopMatches (v : Service) (r : Request) : Prop :=
  match r.state with
  | .active stop => v.stopAsked = stop.isSome
  | .orphaned => v.stopAsked = true
  | _ => False

/-- The requests in ACTIVE or ORPHANED are the one entry the service record names, and none where there is no service
record; and a stop is asked of it exactly when the table says so (R57, R71). -/
def OneServed (s : State) : Prop :=
  EntriesDistinct s ∧ ServicePresent s ∧
    (s.requests.filter served).map Request.index = (s.sequencer.service.map Service.entry).toList ∧
    ∀ v r, s.sequencer.service = some v → findRequest s v.entry = some r → stopMatches v r

/-- No two waiters occupy one slot, and no slot is above 7 (R40). -/
def SlotsDistinct (s : State) : Prop :=
  (s.waiters.map Waiter.slot).Nodup ∧ ∀ w ∈ s.waiters, w.slot < Config.waitSlots

/-- The waiters stand in distinct slots, and none of them is left grantable while a Lock Table entry is FREE: every change
that could let one be granted is followed by a re-examination (R44, R45). -/
def NoneLeftGrantable (s : State) : Prop :=
  SlotsDistinct s ∧ ∀ w ∈ s.waiters, grantable s w = true → lowestFreeLock s = none

/-! ### Relations between the states before and after a command -/

/-- Nothing but the work in progress differs: the Request Table, buffers, engines, pending-record lists, sequencer, drive
lines, sweep direction and write reports may; every window, queue, lock, waiter, watch, setting, the token and the
queue of commands are the same. -/
structure WorkOnly (s t : State) : Prop where
  pending : t.pending = s.pending
  windows : t.windows = s.windows
  windowBase : t.windowBase = s.windowBase
  initLine : t.initLine = s.initLine
  enables : t.enables = s.enables
  completions : t.completions = s.completions
  notices : t.notices = s.notices
  watches : t.watches = s.watches
  locks : t.locks = s.locks
  waiters : t.waiters = s.waiters
  settings : t.settings = s.settings
  token : t.token = s.token

/-- Port `p` holds a command with the code given in hand, and is not held in reset (R173, R175). -/
def InHand (s : State) (p : Port) (command : List Word) (code : Byte) : Prop :=
  (s.windows.get p).state = .busy command ∧ commandCode command = code ∧ s.initLine.get p = false

/-- The response to a command is posted in the window of port `p`: the response words written, RESPONSE READY set, the
window IDLE, the staging words and COMMAND OVERRUN as they were; the windows of the other ports are the same (R175). -/
def Answered (s t : State) (p : Port) (command : List Word) (r : Response) : Prop :=
  t.windows.get p =
      { s.windows.get p with
        state := .idle
        response := responseWords (commandCode command) r
        responseReady := true } ∧
    ∀ q, q ≠ p → t.windows.get q = s.windows.get q

/-- Everything that a port reset of `p` ends is gone: `p` holds no request but its orphan and no lock, waiter or watch; it
has no record, notice or response waiting and no token; its window, engine, enables and window base are as after
power-on; the settings and what the other ports' windows hold are the same (R180). -/
structure PortCleared (s t : State) (p : Port) : Prop where
  window : t.windows.get p = .reset
  engine : t.engines.get p = .reset
  watches : t.watches.get p = [none, none, none, none]
  completions : t.completions.get p = []
  pendingRecords : t.pendingRecords.get p = []
  notices : t.notices.get p = ⟨[], false⟩
  enables : t.enables.get p = ⟨false, false, false⟩
  windowBase : t.windowBase.get p = 0
  requests : ∀ r ∈ t.requests, r.port = p → r.state = .orphaned
  locks : ∀ e ∈ t.locks, ∀ x : Lock, (e.heldLock = some x ∨ ∃ k, e.state = .ended x k) → x.owner ≠ p
  waiters : ∀ w ∈ t.waiters, w.lock.owner ≠ p
  token : t.token = if s.token = some p then none else s.token
  settings : t.settings = s.settings
  otherPorts : ∀ q, q ≠ p → t.windows.get q = s.windows.get q ∧ t.enables.get q = s.enables.get q ∧
    t.windowBase.get q = s.windowBase.get q ∧ t.completions.get q = s.completions.get q ∧
    t.notices.get q = s.notices.get q ∧ t.watches.get q = s.watches.get q

/-- What a re-examination may have done to an entry: left it, or, when it was FREE, allocated it to one of the waiters with
its generation raised and its grant unreported (R45, R47). -/
def LeftOrGranted (waiters : List Waiter) (before after : LockEntry) : Prop :=
  after = before ∨
    (before.state = .free ∧
      ∃ w ∈ waiters, after = ⟨nextGeneration before.generation, .held w.lock .unreported⟩)

/-- A transfer that passes the nine checks of acceptance (R59, Table 4.2), with the coverage of its blocks said block by
block (R38). -/
structure Acceptable (p : Port) (x : Transfer) (s : State) : Prop where
  parameters : x.parametersGood = true
  range : x.inRange = true
  hostRange : x.hostInRange = true
  tag : ∀ r ∈ s.requests, r.port = p → r.tag ≠ x.tag
  quota : portCount s p < s.settings.quota.get p
  entry : ∃ i, i < Config.requestEntries ∧ ∀ r ∈ s.requests, r.index ≠ i
  drive : s.sequencer.state ≠ .offline
  covered : ∀ k, k < x.count → ∃ l ∈ heldLocks s,
    l.owner = p ∧ l.extent.first ≤ x.first + k ∧ x.first + k ≤ l.extent.last ∧
      (x.operation.changesMedium = true → l.mode = .exclusive)
  permission : x.operation.isFormat = true → s.settings.maintenance.get p = true

/-- The wait of a waiter after one lease tick (R48). -/
def tickedWait : WaiterState → WaiterState
  | .waiting (some n) => if n ≤ 1 then .denied else .waiting (some (n - 1))
  | state => state

/-- The rotational position after a command, row by row of the table of R10; every command that is no row of it leaves the
position as it was. -/
def positionAfter (c : Instr) (s : State) : Option Nat :=
  match c with
  | .powerOnReset .. => none
  | .index _ => if s.drive.ready then some 0 else s.sequencer.position
  | .blockMark _ =>
    if s.drive.ready then s.sequencer.position.map (fun p => (p + 1) % Config.blocksPerTrack)
    else s.sequencer.position
  | .fallingReady _ => if s.drive.ready then none else s.sequencer.position
  | .headerRead _ field =>
    match s.sequencer.service, readHeader field with
    | some v, some h =>
      if s.sequencer.state = .searching ∧ v.headerReading = true ∧ h.belongs s.sequencer = true then
        some ((h.block + 1) % Config.blocksPerTrack)
      else s.sequencer.position
    | _, _ => s.sequencer.position
  | _ => s.sequencer.position

/-- A command that may change a setting: SET SETTING and power-on reset (R164). -/
def maySet : Instr → Bool
  | .setSetting _ => true
  | .powerOnReset .. => true
  | _ => false

/-- A command is answered with `r` and changes nothing else: only the window of `p` differs afterwards. -/
def AnsweredOnly (c : Instr) (s : State) (p : Port) (command : List Word) (r : Response) : Prop :=
  ∃ t, exec c s = .next t ∧ Answered s t p command r ∧ t = s.withWindows t.windows

/-- A transfer has entered the Request Table in the lowest FREE entry `i`, with the fields R60 and R61 give it. While the
sequencer is not IDLE nothing else of the table changes; in IDLE a READY request may have been chosen at once. -/
structure Entered (s t : State) (p : Port) (x : Transfer) (i : Nat) : Prop where
  lowest : i < Config.requestEntries ∧ (∀ r ∈ s.requests, r.index ≠ i) ∧ ∀ j, j < i → ∃ r ∈ s.requests, r.index = j
  entry : ∃ r ∈ t.requests, r.index = i ∧ r.port = p ∧ r.tag = x.tag ∧ r.operation = x.operation ∧
    r.first = x.first ∧ r.count = x.count ∧ r.blocksDone = 0 ∧ r.mediumCount = 0 ∧ r.retriesUsed = 0
  table : s.sequencer.state ≠ .idle → ∃ r, t.requests = s.requests ++ [r] ∧ r.index = i ∧ r.passCount = 0 ∧
    r.state = (if r.dependencies = [] then .ready else .waiting) ∧
    ∀ j, j ∈ r.dependencies ↔ ∃ q ∈ s.requests, q.index = j ∧ q.port = p ∧ q.onMedium = true ∧
      q.extent.overlaps x.extent = true ∧ (q.operation.changesMedium = true ∨ x.operation.changesMedium = true)

/-- The entry of `r` is HELD with its outcome and waits in its port's pending-record list (R56, R67). -/
def HeldWith (t : State) (r : Request) (status : Status) (failing : Option Nat) (retries : Nat) : Prop :=
  (∃ q ∈ t.requests, q.index = r.index ∧ q.port = r.port ∧ q.tag = r.tag ∧ q.state = .held status failing ∧
    q.blocksDone = r.blocksDone ∧ q.mediumCount = r.mediumCount ∧ q.retriesUsed = max r.retriesUsed retries) ∧
    OwnerRef.request r.index ∈ t.pendingRecords.get r.port

/-- Whether a stop is taken in the event that asks it: in SETTLING, in SEARCHING, and in FORMATTING with WRITE GATE negated
(R116). -/
def stopsAtOnce (s : State) : Bool :=
  match s.sequencer.state with
  | .settling => true
  | .searching => true
  | .formatting => !s.drive.writeGate
  | _ => false

/-- A stop has been asked of the ACTIVE request `r`, which the sequencer serves with the record `v`: taken at once, it is HELD
with the reason; else it stays ACTIVE with the stop pending, and the sequencer has stop asked (R71, R72, R115, R116). -/
structure StopAsked (s t : State) (r : Request) (v : Service) (reason : Status) : Prop where
  atOnce : stopsAtOnce s = true → HeldWith t r reason none v.retriesSpent
  pending : stopsAtOnce s = false →
    (∃ q ∈ t.requests, q.index = r.index ∧ q.port = r.port ∧ q.tag = r.tag ∧ q.state = .active (some reason) ∧
      q.blocksDone = r.blocksDone ∧ q.mediumCount = r.mediumCount ∧ q.retriesUsed = r.retriesUsed) ∧
    t.sequencer = { s.sequencer with service := some { v with stopAsked := true } }

/-- A HELD lock of entry `i` has ceased: the entry is ENDED-REPORT-PENDING with its generation kept, and of its owner's requests
with a block inside those that were WAITING or READY are HELD with LOCK LOST, the ACTIVE one with no stop pending is asked to
stop with that reason, one with a stop pending keeps it, and those past the medium are as they were (R28, R34, R73,
Table 4.3). -/
structure LockCeased (s t : State) (i : Nat) (lock : Lock) (kind : EndKind) : Prop where
  entry : lockAt t i = ⟨(lockAt s i).generation, .ended lock kind⟩
  waiting : ∀ r ∈ s.requests, r.port = lock.owner → r.extent.overlaps lock.extent = true →
    (r.state = .waiting ∨ r.state = .ready) →
    (∃ q ∈ t.requests, q.index = r.index ∧ q.state = .held .lockLost none ∧ q.blocksDone = r.blocksDone) ∧
      OwnerRef.request r.index ∈ t.pendingRecords.get r.port
  active : OneServed s → ∀ r ∈ s.requests, ∀ v, r.port = lock.owner → r.extent.overlaps lock.extent = true →
    r.state = .active none → s.sequencer.service = some v → StopAsked s t r v .lockLost
  standing : OneServed s → ∀ r ∈ s.requests, r.port = lock.owner → r.extent.overlaps lock.extent = true →
    r.state ≠ .waiting → r.state ≠ .ready → r.state ≠ .active none →
    (∃ q ∈ t.requests, q.index = r.index ∧ q.state = r.state ∧ q.blocksDone = r.blocksDone ∧
      q.mediumCount = r.mediumCount) ∧
    (served r = true → t.sequencer = s.sequencer)

/-- Whether an operation delivers blocks to the host: READ. -/
def delivers : Operation → Bool
  | .read _ => true
  | _ => false

/-- What the Request Table has made of the report that the sequencer's work on `r` is over with the status and failing
block given: an orphan is FREE, a stop pending is the outcome, a READ with undelivered blocks is DRAINING, and any other
request is HELD (R66, R72, R76). -/
def EndedAs (t : State) (r : Request) (status : Status) (failing : Option Nat) (retries : Nat) : Prop :=
  match r.state with
  | .orphaned => ∀ q ∈ t.requests, q.index ≠ r.index
  | .active (some stop) => HeldWith t r stop none retries
  | .active none =>
    if delivers r.operation = true ∧ r.blocksDone < r.mediumCount then
      ∃ q ∈ t.requests, q.index = r.index ∧ q.port = r.port ∧ q.tag = r.tag ∧ q.state = .draining status failing ∧
        q.blocksDone = r.blocksDone ∧ q.mediumCount = r.mediumCount ∧ q.retriesUsed = max r.retriesUsed retries
    else HeldWith t r status failing retries
  | _ => False

/-- The sequencer serves the request `r` with the service record `v` in the state given. -/
structure Serves (s : State) (state : SequencerState) (v : Service) (r : Request) : Prop where
  state : s.sequencer.state = state
  service : s.sequencer.service = some v
  entry : findRequest s v.entry = some r

/-- A request with `n` more blocks finished good (R65). -/
def withBlocks (n retries : Nat) (r : Request) : Request :=
  { r with
    mediumCount := r.mediumCount + n
    blocksDone := if delivers r.operation then r.blocksDone else r.mediumCount + n
    retriesUsed := max r.retriesUsed retries }

/-- The sequencer after a block finished good that is not the last, with no stop asked: SEARCHING for the next block on its
cylinder, or SEEKING to the next cylinder for a crossing (R110, R111). -/
def wentOn (q : Sequencer) (v : Service) : Sequencer :=
  if cylinderOf (v.current + 1) = cylinderOf v.current then
    { q with
      state := .searching
      head := headOf (v.current + 1)
      service := some { v with current := v.current + 1, retriesSpent := 0, indexPasses := 0, headerReading := false } }
  else
    { q with
      state := .seeking
      head := 0
      outstanding := some (.seek (q.believed.getD 0 + 1))
      positioningTimer := some Config.seekLimit
      service :=
        some { v with current := v.current + 1, retriesSpent := 0, target := q.believed.getD 0 + 1,
                      recovery := .unused, headerReading := false } }

/-- The sequencer after a header mismatch whose recovery has not been used: a RECALIBRATE issued (R102). -/
def recovering (q : Sequencer) (v : Service) : Sequencer :=
  { q with
    state := .seeking
    outstanding := some .recalibrate
    positioningTimer := some Config.recalibrateLimit
    settleTimer := none
    service := some { v with recovery := .recalibrateStep, headerReading := false } }

/-- The sequencer SEARCHING for the current block of a service record (R103). -/
def searchingFor (q : Sequencer) (v : Service) : Sequencer :=
  { q with
    state := .searching
    head := headOf v.current
    service := some { v with indexPasses := 0, headerReading := false } }

/-! ### The port engines at rest -/

/-- The buffer `b` of the request `r` is eligible for the engine of its port: LOADING, of the engine's prefetch entry, an ACTIVE
WRITE; or FULL, of a READ in ACTIVE or DRAINING none of whose buffers is DRAINING-TO-HOST. Buffers of the engine's given-up entry
do not count (R129, R133). -/
def Eligible (s : State) (r : Request) (b : Buffer) : Prop :=
  some b ∈ s.buffers ∧ b.entry = r.index ∧ (s.engines.get r.port).givenUp ≠ some r.index ∧
    ((r.isActive = true ∧ (∃ a, r.operation = .write a) ∧ (∃ data, b.state = .loading data) ∧
        ∃ f, (s.engines.get r.port).prefetch = some f ∧ f.entry = r.index) ∨
      ((r.isActive = true ∨ r.isDraining = true) ∧ (∃ a, r.operation = .read a) ∧ (∃ data, b.state = .full data) ∧
        ∀ c, some c ∈ s.buffers → c.entry = r.index → ∀ moved data, c.state ≠ .draining moved data))

/-- No engine stands without a buffer beside one eligible, but at a port held in reset; and a prefetch that meets the conditions
of R130 waits for its next block, and only for want of a FREE buffer (R127, R130, R133, R179). -/
structure EnginesSettled (s : State) : Prop where
  working : ∀ r ∈ s.requests, (s.engines.get r.port).current = none → s.initLine.get r.port = false →
    ∀ b, ¬ Eligible s r b
  claiming : ∀ p f r, (s.engines.get p).prefetch = some f → findRequest s f.entry = some r → r.isActive = true →
    (s.engines.get p).givenUp ≠ some f.entry → f.next ≤ r.last → (boundBuffers s f.entry).length < 3 →
    none ∉ s.buffers ∧ (s.engines.get p).waitingClaim = some f.next

/-- The buffer `b` is the one an engine takes for the request `r` of port `p`: of the ACTIVE WRITE the LOADING buffer with the
lowest block, else of a READ the FULL buffer with the lowest block, now DRAINING-TO-HOST with words moved 0. A DRAINING request is
served only while the ACTIVE one and every older DRAINING one have no eligible buffer (R133). -/
def ChosenFor (t : State) (p : Port) (r : Request) (b : Buffer) : Prop :=
  (r.isActive = true ∧ (∃ a, r.operation = .write a) ∧ (∃ data, b.state = .loading data) ∧
      ∀ c data, some c ∈ t.buffers → c.entry = r.index → c.state = .loading data → b.block ≤ c.block) ∨
    ((∃ data, b.state = .draining 0 data) ∧
      (∀ c data, some c ∈ t.buffers → c.entry = r.index → c.state = .full data → b.block ≤ c.block) ∧
      ((r.isActive = true ∧ ∃ a, r.operation = .read a) ∨
        (r.isDraining = true ∧ (∀ q ∈ t.requests, q.port = p → q.isActive = true → ∀ c, ¬ Eligible t q c) ∧
          ∃ older younger, t.requests = older ++ r :: younger ∧
            ∀ q ∈ older, q.port = p → q.isDraining = true → ∀ c, ¬ Eligible t q c)))

/-- The engine of port `p` has taken its next work and requests its bus for the first burst, with its timer started (R133, R135,
R137). -/
def TakesWork (t : State) (p : Port) : Prop :=
  (t.engines.get p).state = .requesting ∧ (t.engines.get p).timer = some t.settings.hostBusTimeout ∧
    ∃ i b r, (t.engines.get p).current = some i ∧ bufferAt t i = some b ∧ r ∈ t.requests ∧ r.index = b.entry ∧
      r.port = p ∧ (t.engines.get p).givenUp ≠ some r.index ∧ ChosenFor t p r b

/-- The engine of port `p` has chosen: it has taken work, or is IDLE without a buffer; and no engine of the part stands beside
work it could do (R133). -/
def HasChosen (t : State) (p : Port) : Prop :=
  EnginesSettled t ∧
    (TakesWork t p ∨ ((t.engines.get p).state = .idle ∧ (t.engines.get p).current = none))

/-- Buffer `j` is FREE, or was claimed in the same event for the prefetch entry of some port's engine and holds no word yet
(R125, R126, R127). -/
def FreeOrClaimed (t : State) (j : Nat) : Prop :=
  bufferAt t j = none ∨
    ∃ b q f, bufferAt t j = some b ∧ b.state = .loading [] ∧ (t.engines.get q).prefetch = some f ∧ f.entry = b.entry

/-- The WRITE PROTECT level a drive event brings (R8; log 6). -/
def sensed (s : State) (writeProtect : Bool) : DriveLines := { s.drive with writeProtect := writeProtect }

/-- The port whose window a command may change: the port of a window access or of a command in hand, and of a port reset. -/
def windowPort : Instr → Option Port
  | .initAsserted p => some p
  | .reset p _ => some p
  | .go p _ => some p
  | .stagingWordWrite p _ _ => some p
  | .statusWordWrite p _ => some p
  | .responseWord0Read p => some p
  | .read p => some p
  | .write p => some p
  | .verify p => some p
  | .formatTrack p => some p
  | .cancel p => some p
  | .acquire p => some p
  | .renew p => some p
  | .release p => some p
  | .forceRelease p => some p
  | .withdraw p => some p
  | .watch p => some p
  | .unwatch p => some p
  | .claimToken p => some p
  | .releaseToken p => some p
  | .setSetting p => some p
  | .readSettings p => some p
  | .unknownCommand p => some p
  | _ => none

/-- The waiters after a re-examination: each is one of those before it, in the same order. -/
def WaitersLeft (before after : List Waiter) : Prop := after.Sublist before

/-- What a re-examination that follows a change of the Lock Unit may do: grant waiters into FREE entries (R45, R47). The state
`s` is the one in which it starts. -/
structure Reexamined (s t : State) : Prop where
  locks : ∀ i, LeftOrGranted s.waiters (lockAt s i) (lockAt t i)
  waiters : WaitersLeft s.waiters t.waiters
  pendingRecords : ∀ p, ∃ granted, t.pendingRecords.get p = s.pendingRecords.get p ++ granted ∧
    ∀ item ∈ granted, ∃ i, item = .lock i
  others : t = ((s.withLocks t.locks).withWaiters t.waiters).withPendingRecords t.pendingRecords

end Sys2Proof.Safety
end

