-- ==== Sys2Proof/Certificates/Slice0/Obligations.lean ====
section
/-! DEFINITION. The statements for the provers. -/

open Sys2Proof Sys2Proof.Machine Sys2Proof.Safety

/-! ### The step, the commands as a whole, and reset -/

/-- A step takes the command at the front of the queue and runs it with the queue's rest; that the part idles on an empty
queue is the model's choice (log 1). -/
def Obligations.StepTakesTheFrontCommand : Prop :=
  (∀ (c : Instr) (rest : List Instr) (s : State), s.pending = c :: rest → step s = exec c (s.withPending rest)) ∧
    ∀ s : State, s.pending = [] → step s = .next s

/-- Every command completes, and no command touches the queue of the commands that wait. The queue is the model's (log 1). -/
def Obligations.EveryCommandCompletes : Prop :=
  ∀ (c : Instr) (s : State), ∃ t, exec c s = .next t ∧ t.pending = s.pending

/-- The values the spec gives for power-on reset (R15, R40, R55, R80, R95, R123, R132, R144, R151, R154, R159, R165, R172, Table 10.1);
and POWER_ON_RESET sets every unit to its power-on values whatever stood before, an asserted READY counting as rising: the heads
are recalibrated toward a limit of 2 s (R7, R95, R96). That the command carries the levels of READY, WRITE PROTECT and INIT and
keeps the queue of commands is the model's choice (log 20). -/
def Obligations.PowerOnResetStartsThePart : Prop :=
  ((∀ p : Port,
     (State.reset.windows.get p).staging = List.replicate 8 0 ∧
     (State.reset.windows.get p).state = .idle ∧
     (State.reset.windows.get p).response = List.replicate 8 0 ∧
     (State.reset.windows.get p).responseReady = false ∧
     (State.reset.windows.get p).commandOverrun = false ∧
     State.reset.windowBase.get p = 0 ∧
     State.reset.enables.get p = ⟨false, false, false⟩ ∧
     State.reset.completions.get p = [] ∧
     State.reset.pendingRecords.get p = [] ∧
     State.reset.notices.get p = ⟨[], false⟩ ∧
     State.reset.watches.get p = [none, none, none, none] ∧
     (State.reset.engines.get p).state = .idle ∧
     (State.reset.engines.get p).current = none ∧
     (State.reset.engines.get p).prefetch = none ∧
     State.reset.settings.quota.get p = 8 ∧
     State.reset.settings.maintenance.get p = false) ∧
   State.reset.buffers = List.replicate 6 none ∧
   State.reset.requests = [] ∧
   State.reset.locks = List.replicate 16 ⟨0, .free⟩ ∧
   State.reset.waiters = [] ∧
   State.reset.sequencer.state = .offline ∧
   State.reset.sequencer.believed = none ∧
   State.reset.sequencer.head = 0 ∧
   State.reset.sequencer.position = none ∧
   State.reset.sequencer.outstanding = none ∧
   State.reset.drive.writeGate = false ∧
   State.reset.sweep = .higher ∧
   State.reset.settings.leaseLength = 50 ∧
   State.reset.settings.retryCount = 2 ∧
   State.reset.settings.settleTime = 4 ∧
   State.reset.settings.faultHold = 4 ∧
   State.reset.settings.hostBusTimeout = 50 ∧
   State.reset.token = none) ∧
  (∀ (ready writeProtect a b c d : Bool) (s : State),
     exec (.powerOnReset ready writeProtect a b c d) s = .next
       { State.reset with
         pending := s.pending
         initLine := ⟨a, b, c, d⟩
         drive := ⟨ready, writeProtect, false, []⟩
         sequencer :=
           if ready then
             { Sequencer.reset with
               state := .recalibrating
               outstanding := some .recalibrate
               positioningTimer := some 2000 }
           else Sequencer.reset })

/-- The state after reset meets every invariant. -/
def Obligations.ResetMeetsTheInvariants : Prop :=
  QueuesBounded State.reset ∧ SettingsInRange State.reset ∧ LockTableShaped State.reset ∧ LocksCompatible State.reset ∧
    BuffersShared State.reset ∧ RotationSound State.reset ∧ WorkConserving State.reset ∧ OneServed State.reset ∧
    NoneLeftGrantable State.reset

/-- A port reset, by the RESET word or by INIT, leaves nothing of the port but its orphan and the settings, and leaves the
windows, queues and watches of the other ports as they were (R39, R53, R76, R79, R153, R163, R171, R180). -/
def Obligations.PortResetClearsThePort : Prop :=
  ∀ (p : Port) (value : Word) (s : State), EntriesDistinct s → s.initLine.get p = false →
    (∃ t, exec (.reset p value) s = .next t ∧ PortCleared s t p ∧ t.initLine = s.initLine) ∧
      ∃ t, exec (.initAsserted p) s = .next t ∧ PortCleared s t p ∧ t.initLine = s.initLine.set p true

/-- While INIT of a port is asserted every write of its window is disregarded; and the negation of INIT ends it (R179). That
INIT asserted again is no new reset is the model's reading (log 3). -/
def Obligations.HeldPortDisregardsWrites : Prop :=
  (∀ (p : Port) (offset : Nat) (value : Word) (s : State), s.initLine.get p = true →
    exec (.reset p value) s = .next s ∧ exec (.go p value) s = .next s ∧
      exec (.stagingWordWrite p offset value) s = .next s ∧ exec (.statusWordWrite p value) s = .next s ∧
      exec (.interruptEnableWordWrite p value) s = .next s ∧ exec (.windowBaseWordWrite p value) s = .next s ∧
      exec (.completionPop p value) s = .next s ∧ exec (.noticePop p value) s = .next s ∧
      exec (.initAsserted p) s = .next s) ∧
    ∀ (p : Port) (s : State), exec (.initNegated p) s = .next (s.withInitLine (s.initLine.set p false))

/-! ### The host port window -/

/-- GO in IDLE copies the staging words as the command in hand, sets the window BUSY and clears RESPONSE READY; GO in BUSY is an
overrun, which sets COMMAND OVERRUN and leaves the command in hand (R173, R174). A read of response word 0 clears RESPONSE READY
and leaves the response words; the value read, which the model keeps, is the word as it stood (R176; log 17). -/
def Obligations.GoAndResponseReadHandshake : Prop :=
  (∀ (p : Port) (value : Word) (s : State), s.initLine.get p = false →
     ((s.windows.get p).state = .idle →
       exec (.go p value) s = .next
         (s.withWindows
           (s.windows.set p
             { s.windows.get p with state := .busy (s.windows.get p).staging, responseReady := false }))) ∧
       ∀ command, (s.windows.get p).state = .busy command →
         exec (.go p value) s = .next
           (s.withWindows (s.windows.set p { s.windows.get p with commandOverrun := true }))) ∧
  (∀ (p : Port) (s : State),
     exec (.responseWord0Read p) s = .next
       (s.withWindows
         (s.windows.set p
           { s.windows.get p with
             responseReady := false
             readData := (s.windows.get p).response.getD 0 0 })))

/-- A staging word takes the value written and reads back; a write of a read-only word has no effect, and a write-only word reads 0.
The response words read as the last response left them: its code below the code of the command it answers, then the values of
its kind, the settings and the token holder for a READ SETTINGS, and 0 in every other word (R172, R176, R183). -/
def Obligations.StagingWordsReadBack : Prop :=
  (∀ (p : Port) (offset : Nat) (value : Word) (s : State), s.initLine.get p = false →
    (7 ≤ offset → offset ≤ 14 →
      ∃ t, exec (.stagingWordWrite p offset value) s = .next t ∧
        t = s.withWindows
          (s.windows.set p { s.windows.get p with staging := (s.windows.get p).staging.set (offset - 7) value }) ∧
        ((s.windows.get p).staging.length = 8 → windowWord t p offset = value)) ∧
    (15 ≤ offset → offset ≤ 29 → exec (.stagingWordWrite p offset value) s = .next s)) ∧
  (∀ (p : Port) (offset : Nat) (s : State),
    (3 ≤ offset → offset ≤ 6 → windowWord s p offset = 0) ∧
    (7 ≤ offset → offset ≤ 14 → windowWord s p offset = (s.windows.get p).staging.getD (offset - 7) 0) ∧
    (15 ≤ offset → offset ≤ 22 → windowWord s p offset = (s.windows.get p).response.getD (offset - 15) 0)) ∧
  (∀ (code : Byte) (r : Response) (n : Nat),
    (r, n) ∈ [(.done, 0x04), (.badParameter, 0x10), (.outOfRange, 0x11), (.hostRange, 0x12), (.quota, 0x13),
      (.tableFull, 0x14), (.duplicateTag, 0x15), (.notLocked, 0x16), (.notOwner, 0x17), (.staleHandle, 0x18),
      (.notFound, 0x19), (.conflict, 0x1A), (.overlap, 0x1B), (.waitFull, 0x1C), (.watchFull, 0x1D), (.inUse, 0x1E),
      (.notPermitted, 0x1F), (.noToken, 0x21), (.notReady, 0x22), (.tooLate, 0x23), (.unknownCommand, 0x24)] →
    responseWords code r = BitVec.ofNat 16 (256 * code.toNat + n) :: List.replicate 7 0) ∧
  (∀ (code : Byte) (r : Response) (n v : Nat),
    (r, n, v) ∈ [(.accepted v, 0x01, v), (.queued v, 0x03, v), (.doneWatch v, 0x04, v), (.tokenHeld .a, 0x20, 0),
      (.tokenHeld .b, 0x20, 1), (.tokenHeld .c, 0x20, 2), (.tokenHeld .d, 0x20, 3)] →
    responseWords code r = BitVec.ofNat 16 (256 * code.toNat + n) :: BitVec.ofNat 16 v :: List.replicate 6 0) ∧
  (∀ (code : Byte) (h : Handle), h.index < 16 → h.generation < 16 →
    responseWords code (.granted h) =
      BitVec.ofNat 16 (256 * code.toNat + 2) :: BitVec.ofNat 16 (16 * h.index + h.generation) :: List.replicate 6 0) ∧
  ∀ (code : Byte) (s : State) (holder : Option Port) (n : Nat), SettingsInRange s →
    (holder, n) ∈ [(none, 0), (some .a, 1), (some .b, 2), (some .c, 3), (some .d, 4)] →
    let w := s.settings
    responseWords code (.doneSettings w holder) =
      [256 * code.toNat + 4, w.quota.a + 256 * w.quota.b, w.quota.c + 256 * w.quota.d,
        w.maintenance.a.toNat + 2 * w.maintenance.b.toNat + 4 * w.maintenance.c.toNat + 8 * w.maintenance.d.toNat + 16 * n,
        w.leaseLength, w.retryCount, w.settleTime + 256 * w.faultHold, w.hostBusTimeout].map (BitVec.ofNat 16)

/-- A write of the status word clears COMMAND OVERRUN by bit 1 and NOTICE LOST by bit 2, and changes nothing else; the status word as
read, bit by bit, with the counts of the two queues while they are within their capacities (R161, R177). -/
def Obligations.StatusWordShowsAndClears : Prop :=
  (∀ (p : Port) (value : Word) (s : State), s.initLine.get p = false →
     exec (.statusWordWrite p value) s = .next
       { s with
         windows := s.windows.set p
           { s.windows.get p with
             commandOverrun := if value.getLsbD 1 then false else (s.windows.get p).commandOverrun }
         notices := s.notices.set p
           { s.notices.get p with lost := if value.getLsbD 2 then false else (s.notices.get p).lost } }) ∧
  (∀ (p : Port) (s : State), QueuesBounded s →
     (windowWord s p 0).getLsbD 0 = (s.windows.get p).responseReady ∧
     (windowWord s p 0).getLsbD 1 = (s.windows.get p).commandOverrun ∧
     (windowWord s p 0).getLsbD 2 = (s.notices.get p).lost ∧
     ((windowWord s p 0).getLsbD 3 = true ↔ (s.windows.get p).state ≠ .idle) ∧
     ((windowWord s p 0).extractLsb' 4 4).toNat = 0 ∧
     ((windowWord s p 0).extractLsb' 8 4).toNat = (s.completions.get p).length ∧
     ((windowWord s p 0).extractLsb' 12 3).toNat = (s.notices.get p).queue.length ∧
     (windowWord s p 0).getLsbD 15 = false)

/-- The interrupt enable word: RESPONSE in bit 0, COMPLETION in bit 1, NOTICE in bit 2; a write sets the three and disregards the
other bits, and a read returns the three with the other bits 0. The window base word: a write sets the base from bits 7 to 0 and
disregards the others, and a read returns it with the others 0; the engine reads the base at the first burst of each buffer. Port
reset clears both (R178). -/
def Obligations.EnableAndBaseWordsHold : Prop :=
  (∀ (p : Port) (value : Word) (s : State), s.initLine.get p = false →
    exec (.interruptEnableWordWrite p value) s = .next
      (s.withEnables (s.enables.set p ⟨value.getLsbD 0, value.getLsbD 1, value.getLsbD 2⟩)) ∧
    exec (.windowBaseWordWrite p value) s = .next
      (s.withWindowBase (s.windowBase.set p (value.extractLsb' 0 8))) ∧
    ∃ t, exec (.reset p value) s = .next t ∧ t.enables.get p = ⟨false, false, false⟩ ∧ t.windowBase.get p = 0) ∧
  (∀ (p : Port) (s : State) (k : Nat),
    ((windowWord s p 1).getLsbD k =
      if k = 0 then (s.enables.get p).response
      else if k = 1 then (s.enables.get p).completion
      else if k = 2 then (s.enables.get p).notice
      else false) ∧
    (windowWord s p 2).toNat = (s.windowBase.get p).toNat) ∧
  ∀ (p : Port) (s : State) (i : Nat) (b : Buffer) (r : Request),
    (s.engines.get p).state = .requesting → (s.engines.get p).current = some i → bufferAt s i = some b →
    findRequest s b.entry = some r →
    ∃ t, exec (.busGrant p) s = .next t ∧
      (t.engines.get p).bufferBase = (if b.wordsMoved = 0 then s.windowBase.get p else (s.engines.get p).bufferBase)

/-- The record words show the head of the completion queue and the notice words the head of the notice queue, field by field, and
every one reads 0 when its queue is empty (R172, R184). COMPLETION POP and NOTICE POP discard the head, if any, and change nothing
else; NOTICE LOST stays (R148, R160). -/
def Obligations.PopsDiscardTheHead : Prop :=
  (∀ (p : Port) (value : Word) (s : State), s.initLine.get p = false →
    (∀ r rest, s.completions.get p = r :: rest →
      exec (.completionPop p value) s = .next (s.withCompletions (s.completions.set p rest))) ∧
    (s.completions.get p = [] → exec (.completionPop p value) s = .next s) ∧
    (∀ n rest, (s.notices.get p).queue = n :: rest →
      exec (.noticePop p value) s = .next
        (s.withNotices (s.notices.set p ⟨rest, (s.notices.get p).lost⟩))) ∧
    ((s.notices.get p).queue = [] → exec (.noticePop p value) s = .next s)) ∧
  (∀ (p : Port) (s : State),
    (s.completions.get p = [] → ∀ offset, 23 ≤ offset → offset ≤ 26 → windowWord s p offset = 0) ∧
    (∀ tag status done retries failing rest n,
      s.completions.get p = .transferDone tag status done retries failing :: rest →
      done ≤ 64 → retries ≤ 7 → (∀ block, failing = some block → block ≤ 5759) →
      (status, n) ∈ [(.ok, 0), (.cancelled, 1), (.lockLost, 2), (.dataCheck, 3), (.headerNotFound, 4), (.positionError, 5),
        (.defectiveBlock, 6), (.writeProtected, 7), (.driveNotReady, 8), (.hostBusTimeout, 9)] →
      (windowWord s p 23).toNat = 32768 + 4096 * 1 + 256 * n + tag.toNat ∧
      (windowWord s p 24).toNat = (if failing.isSome then 32768 else 0) ∧
      (windowWord s p 25).toNat = 256 * retries + done ∧
      (windowWord s p 26).toNat = failing.getD 0) ∧
    (∀ (h : Handle) record rest n, s.completions.get p = record :: rest → h.index < 16 → h.generation < 16 →
      (record, n) ∈ [(.lockGranted h, 2), (.lockExpired h, 4), (.lockForced h, 5)] →
      (windowWord s p 23).toNat = 32768 + 4096 * n ∧
      (windowWord s p 24).toNat = 16 * h.index + h.generation ∧ windowWord s p 25 = 0 ∧ windowWord s p 26 = 0) ∧
    (∀ waiter rest, s.completions.get p = .lockDenied waiter :: rest → waiter < 8 →
      (windowWord s p 23).toNat = 32768 + 4096 * 3 ∧
      (windowWord s p 24).toNat = waiter ∧ windowWord s p 25 = 0 ∧ windowWord s p 26 = 0)) ∧
  ∀ (p : Port) (s : State),
    ((s.notices.get p).queue = [] → ∀ offset, 27 ≤ offset → offset ≤ 29 → windowWord s p offset = 0) ∧
    ∀ notice rest writer kind, (s.notices.get p).queue = notice :: rest →
      notice.watch < 4 → notice.extent.first ≤ 5759 → notice.extent.last ≤ 5759 →
      (notice.writer, writer) ∈ [(.a, 0), (.b, 1), (.c, 2), (.d, 3)] →
      (notice.kind, kind) ∈ [(.written, 0), (.formatted, 1)] →
      (windowWord s p 27).toNat = 32768 + 4096 * writer + 256 * notice.watch + kind ∧
      (windowWord s p 28).toNat = notice.extent.first ∧ (windowWord s p 29).toNat = notice.extent.last

/-- The interrupt line of a port is asserted exactly while a condition is true and its enable is set; after power-on reset, and after
a port reset of the port, it is negated (R152). -/
def Obligations.InterruptLineFollowsTheConditions : Prop :=
  (∀ (p : Port) (s : State),
    interruptLine s p = true ↔
      ((s.windows.get p).responseReady = true ∧ (s.enables.get p).response = true) ∨
      (1 ≤ (s.completions.get p).length ∧ (s.enables.get p).completion = true) ∨
      (((s.notices.get p).queue ≠ [] ∨ (s.notices.get p).lost = true) ∧ (s.enables.get p).notice = true)) ∧
  (∀ (p : Port) (value : Word) (s : State), s.initLine.get p = false →
    (∃ t, exec (.reset p value) s = .next t ∧ interruptLine t p = false) ∧
      ∃ t, exec (.initAsserted p) s = .next t ∧ interruptLine t p = false) ∧
  ∀ (p : Port) (ready wp a b c d : Bool) (s : State),
    ∃ t, exec (.powerOnReset ready wp a b c d) s = .next t ∧ interruptLine t p = false

/-- No command but the port's own window accesses, the commands it has in hand, and its resets changes anything in the command window of
a port, power-on reset apart (R172); and no command but SET SETTING and power-on reset changes a setting (R164). -/
def Obligations.CommandsKeepToTheirPort : Prop :=
  (∀ (c : Instr) (q : Port) (s : State), windowPort c ≠ some q →
     (∀ ready wp i j k l, c ≠ .powerOnReset ready wp i j k l) →
     ∃ t, exec c s = .next t ∧ t.windows.get q = s.windows.get q) ∧
  (∀ (c : Instr) (s : State), maySet c = false → ∃ t, exec c s = .next t ∧ t.settings = s.settings)

/-! ### The Request Table -/

/-- A READ, WRITE, VERIFY or FORMAT TRACK that passes the nine checks is ACCEPTED in the lowest FREE entry, and only the work in
progress changes with it (R59, R60, R61). -/
def Obligations.TransferAccepted : Prop :=
  ∀ (p : Port) (command : List Word) (s : State) (c : Instr) (code : Byte) (x : Transfer),
    (c, code, x) ∈ [(.read p, 0x01, readOf command), (.write p, 0x02, writeOf command),
      (.verify p, 0x03, verifyOf command), (.formatTrack p, 0x04, formatOf command)] →
    InHand s p command code → Acceptable p x s →
    ∃ t i, exec c s = .next t ∧ Answered s t p command (.accepted i) ∧ WorkOnly (s.withWindows t.windows) t ∧
      Entered s t p x i

/-- A transfer command that fails a check is answered with the response of the first that fails, and changes nothing else; and
the checks all pass exactly when it is acceptable (R38, R59, Table 4.2). -/
def Obligations.TransferChecksInOrder : Prop :=
  ∀ (p : Port) (command : List Word) (s : State) (c : Instr) (code : Byte) (x : Transfer),
    (c, code, x) ∈ [(.read p, 0x01, readOf command), (.write p, 0x02, writeOf command),
      (.verify p, 0x03, verifyOf command), (.formatTrack p, 0x04, formatOf command)] →
    InHand s p command code →
    (∀ r, transferRefusal p x s = some r → AnsweredOnly c s p command r) ∧
    (transferRefusal p x s = none ↔ Acceptable p x s) ∧
    (x.parametersGood = false → transferRefusal p x s = some .badParameter) ∧
    (x.parametersGood = true → x.inRange = false → transferRefusal p x s = some .outOfRange) ∧
    (x.parametersGood = true → x.inRange = true → x.hostInRange = false →
      transferRefusal p x s = some .hostRange) ∧
    (x.parametersGood = true → x.inRange = true → x.hostInRange = true →
      ((∃ r ∈ s.requests, r.port = p ∧ r.tag = x.tag) → transferRefusal p x s = some .duplicateTag) ∧
      ((∀ r ∈ s.requests, r.port = p → r.tag ≠ x.tag) →
        (s.settings.quota.get p ≤ portCount s p → transferRefusal p x s = some .quota) ∧
        (portCount s p < s.settings.quota.get p →
          ((∀ i, i < 32 → ∃ r ∈ s.requests, r.index = i) → transferRefusal p x s = some .tableFull) ∧
          (∀ i, i < 32 → (∀ r ∈ s.requests, r.index ≠ i) →
            (s.sequencer.state = .offline → transferRefusal p x s = some .notReady) ∧
            (s.sequencer.state ≠ .offline → covered s p x = false →
              transferRefusal p x s = some .notLocked) ∧
            (s.sequencer.state ≠ .offline → covered s p x = true → x.operation.isFormat = true →
              s.settings.maintenance.get p = false → transferRefusal p x s = some .notPermitted)))))

/-- CANCEL of a WAITING or READY request answers DONE, and the request is HELD with CANCELLED. CANCEL of an ACTIVE request answers DONE
and asks a stop, which is taken at once in SETTLING, in SEARCHING and in FORMATTING before WRITE GATE, and waits in SEEKING, in
TRANSFERRING and in FORMATTING with WRITE GATE asserted; a stop already pending stands. A request past the medium is TOO LATE, and no
request is NOT FOUND (R71, R74, R116). -/
def Obligations.CancelEndsOrStopsTheRequest : Prop :=
  (∀ (p : Port) (command : List Word) (s : State) (r : Request),
     InHand s p command 0x05 → EntriesDistinct s → findTag s p (tagOf command) = some r →
     (r.state = .waiting ∨ r.state = .ready) →
     ∃ t, exec (.cancel p) s = .next t ∧ Answered s t p command .done ∧ WorkOnly (s.withWindows t.windows) t ∧
       HeldWith t r .cancelled none 0) ∧
  (∀ (p : Port) (command : List Word) (s : State), InHand s p command 0x05 → EntriesDistinct s →
     (∀ r v, findTag s p (tagOf command) = some r → r.state = .active none → s.sequencer.service = some v →
       v.entry = r.index →
       (s.sequencer.state = .settling ∨ s.sequencer.state = .searching ∨
         (s.sequencer.state = .formatting ∧ s.drive.writeGate = false)) →
       ∃ t, exec (.cancel p) s = .next t ∧ Answered s t p command .done ∧ WorkOnly (s.withWindows t.windows) t ∧
         HeldWith t r .cancelled none v.retriesSpent) ∧
     (∀ r v, findTag s p (tagOf command) = some r → r.state = .active none → s.sequencer.service = some v →
       (s.sequencer.state = .seeking ∨ s.sequencer.state = .transferring ∨
         (s.sequencer.state = .formatting ∧ s.drive.writeGate = true)) →
       ∃ t, exec (.cancel p) s = .next t ∧ Answered s t p command .done ∧ WorkOnly (s.withWindows t.windows) t ∧
         t.requests = s.requests.map (fun q =>
           if q.index = r.index then { q with state := .active (some .cancelled) } else q) ∧
         t.sequencer = { s.sequencer with service := some { v with stopAsked := true } }) ∧
     (∀ r stop, findTag s p (tagOf command) = some r → r.state = .active (some stop) →
       AnsweredOnly (.cancel p) s p command .done) ∧
     (∀ r status failing, findTag s p (tagOf command) = some r →
       (r.state = .draining status failing ∨ r.state = .held status failing) →
       AnsweredOnly (.cancel p) s p command .tooLate) ∧
     ((∀ r ∈ s.requests, r.port = p → r.tag = tagOf command → r.state = .orphaned) →
       AnsweredOnly (.cancel p) s p command .notFound))

/-! ### The Lock Unit -/

/-- An ACQUIRE that is grantable at once is GRANTED in the lowest FREE entry, with its generation raised, its grant reported and
its lease started; nothing else changes (R17, R21, R22, R25). -/
def Obligations.AcquireGrantsAtOnce : Prop :=
  ∀ (p : Port) (command : List Word) (s : State) (mode : Mode) (i : Nat),
    InHand s p command 0x10 → modeOf (commandWord command 3) = some mode →
    (extentOf command 1).first ≤ (extentOf command 1).last → (extentOf command 1).last ≤ 5759 →
    (∀ l ∈ heldLocks s, l.owner = p → l.extent.overlaps (extentOf command 1) = false) →
    (∀ w ∈ s.waiters, w.isWaiting = true → w.lock.owner = p → w.lock.extent.overlaps (extentOf command 1) = false) →
    (∀ l ∈ heldLocks s, l.owner ≠ p → l.extent.overlaps (extentOf command 1) = true →
      l.mode = .shared ∧ mode = .shared) →
    (∀ w ∈ s.waiters, w.isWaiting = true → w.lock.extent.overlaps (extentOf command 1) = true →
      w.lock.mode = .shared ∧ mode = .shared) →
    (∃ e, s.locks[i]? = some e ∧ e.state = .free) →
    (∀ j e, j < i → s.locks[j]? = some e → e.state ≠ .free) →
    ∃ t, exec (.acquire p) s = .next t ∧
      Answered s t p command (.granted ⟨i, ((lockAt s i).generation + 1) % 16⟩) ∧
      t = (s.withWindows t.windows).withLocks
        (s.locks.set i
          ⟨((lockAt s i).generation + 1) % 16,
            .held ⟨p, extentOf command 1, mode⟩
              (.reported (if s.settings.leaseLength = 0 then none else some s.settings.leaseLength))⟩)

/-- An ACQUIRE that is not grantable at once: CONFLICT or TABLE FULL with a wait limit of 0, and with another limit QUEUED in the
lowest empty slot, or WAIT FULL (R21, R23, R43). -/
def Obligations.AcquireRefusedOrQueued : Prop :=
  ∀ (p : Port) (command : List Word) (s : State), InHand s p command 0x10 →
    ((extentOf command 1).last < (extentOf command 1).first ∨ modeOf (commandWord command 3) = none →
      AnsweredOnly (.acquire p) s p command .badParameter) ∧
    ∀ mode, modeOf (commandWord command 3) = some mode → (extentOf command 1).first ≤ (extentOf command 1).last →
      (5759 < (extentOf command 1).last → AnsweredOnly (.acquire p) s p command .outOfRange) ∧
      ((extentOf command 1).last ≤ 5759 →
        (overlapsOwn s p (extentOf command 1) = true → AnsweredOnly (.acquire p) s p command .overlap) ∧
        (overlapsOwn s p (extentOf command 1) = false →
          let lock : Lock := ⟨p, extentOf command 1, mode⟩
          let limit := (commandWord command 4).toNat % 256
          let barred := conflictsWithHeld s lock || barredBy s.waiters lock
          (barred = true → limit = 0 → AnsweredOnly (.acquire p) s p command .conflict) ∧
          (barred = false → (∀ e ∈ s.locks, e.state ≠ .free) → limit = 0 →
            AnsweredOnly (.acquire p) s p command .tableFull) ∧
          (barred = true ∨ (∀ e ∈ s.locks, e.state ≠ .free) → limit ≠ 0 →
            (∀ slot, slot < 8 → (∀ w ∈ s.waiters, w.slot ≠ slot) →
              (∀ n, n < slot → ∃ w ∈ s.waiters, w.slot = n) →
              ∃ t, exec (.acquire p) s = .next t ∧ Answered s t p command (.queued slot) ∧
                t = (s.withWindows t.windows).withWaiters
                  (s.waiters ++ [⟨slot, lock, .waiting (if limit = 255 then none else some limit)⟩])) ∧
            ((∀ n, n < 8 → ∃ w ∈ s.waiters, w.slot = n) →
              AnsweredOnly (.acquire p) s p command .waitFull))))

/-- The tests of a handle in order: the five of RENEW and RELEASE, and the first three, after the permission test, of FORCE
RELEASE; a command that fails one changes no entry (R18, R33). -/
def Obligations.HandleTestsInOrder : Prop :=
  ∀ (p : Port) (command : List Word) (s : State) (c : Instr) (code : Byte) (own : Bool),
    (c, code, own) ∈ [(.renew p, 0x11, true), (.release p, 0x12, true), (.forceRelease p, 0x13, false)] →
    InHand s p command code → (own = false → s.settings.maintenance.get p = true) →
    let h := handleOf command
    ((lockAt s h.index).state = .free → AnsweredOnly c s p command .notFound) ∧
    ((lockAt s h.index).state ≠ .free → h.generation ≠ (lockAt s h.index).generation →
      AnsweredOnly c s p command .staleHandle) ∧
    (∀ lock kind, lockAt s h.index = ⟨h.generation, .ended lock kind⟩ → AnsweredOnly c s p command .notFound) ∧
    (∀ lock, own = true → lockAt s h.index = ⟨h.generation, .held lock .unreported⟩ →
      AnsweredOnly c s p command .notFound) ∧
    (∀ lock lease, own = true → lockAt s h.index = ⟨h.generation, .held lock (.reported lease)⟩ → lock.owner ≠ p →
      AnsweredOnly c s p command .notOwner)

/-- RENEW of a reported lock of the port restarts its lease from the lease-length setting and changes nothing else of it (R25,
R27). -/
def Obligations.RenewRestartsTheLease : Prop :=
  ∀ (p : Port) (command : List Word) (s : State) (lock : Lock) (lease : Option Nat),
    InHand s p command 0x11 →
    lockAt s (handleOf command).index = ⟨(handleOf command).generation, .held lock (.reported lease)⟩ →
    lock.owner = p →
    ∃ t, exec (.renew p) s = .next t ∧ Answered s t p command .done ∧
      t = (s.withWindows t.windows).withLocks
        (s.locks.set (handleOf command).index
          ⟨(handleOf command).generation,
            .held lock (.reported (if s.settings.leaseLength = 0 then none else some s.settings.leaseLength))⟩)

/-- RELEASE of a reported lock of the port: IN USE while a request of the port on the medium has a block inside; else DONE, the
entry FREE with its generation kept, and the queue re-examined (R31, R32). -/
def Obligations.ReleaseFreesTheLock : Prop :=
  ∀ (p : Port) (command : List Word) (s : State) (lock : Lock) (lease : Option Nat),
    InHand s p command 0x12 →
    lockAt s (handleOf command).index = ⟨(handleOf command).generation, .held lock (.reported lease)⟩ →
    lock.owner = p →
    ((∃ r ∈ s.requests, r.port = p ∧ r.onMedium = true ∧ r.extent.overlaps lock.extent = true) →
      AnsweredOnly (.release p) s p command .inUse) ∧
    ((∀ r ∈ s.requests, r.port = p → r.onMedium = true → r.extent.overlaps lock.extent = false) →
      ∃ t, exec (.release p) s = .next t ∧ Answered s t p command .done ∧
        t = reexamine
          ((s.withWindows t.windows).withLocks
            (s.locks.set (handleOf command).index ⟨(handleOf command).generation, .free⟩)))

/-- FORCE RELEASE, with maintenance permission, ends a HELD lock of any port with end kind FORCED: of its owner's requests with a block
inside, the WAITING and READY ones are HELD with LOCK LOST and the ACTIVE one is asked to stop, at once in SETTLING, SEARCHING and
FORMATTING before WRITE GATE, and else at its block boundary; the entry of a reported lock joins its owner's pending-record list,
and the queue is re-examined; without permission it is NOT PERMITTED (R33, R34, R35, R71, R73, R116). -/
def Obligations.ForceReleaseEndsTheLock : Prop :=
  ∀ (p : Port) (command : List Word) (s : State), InHand s p command 0x13 →
    (s.settings.maintenance.get p = false → AnsweredOnly (.forceRelease p) s p command .notPermitted) ∧
    ∀ lock grant, EntriesDistinct s → s.settings.maintenance.get p = true →
      lockAt s (handleOf command).index = ⟨(handleOf command).generation, .held lock grant⟩ →
      ∃ t, exec (.forceRelease p) s = .next t ∧ Answered s t p command .done ∧
        LockCeased s t (handleOf command).index lock .forced ∧
        (let ended := s.withLocks
            (s.locks.set (handleOf command).index ⟨(handleOf command).generation, .ended lock .forced⟩);
          t.locks = (reexamine ended).locks ∧ t.waiters = (reexamine ended).waiters) ∧
        (∀ j, j ≠ (handleOf command).index → LeftOrGranted s.waiters (lockAt s j) (lockAt t j)) ∧
        WaitersLeft s.waiters t.waiters ∧
        (∀ lease, grant = .reported lease →
          OwnerRef.lock (handleOf command).index ∈ t.pendingRecords.get lock.owner) ∧
        WorkOnly (((s.withWindows t.windows).withLocks t.locks).withWaiters t.waiters) t

/-- WITHDRAW: a number above 7 is BAD PARAMETER; an empty slot, another port's waiter and a denied waiter are NOT FOUND; a WAITING
waiter of the port leaves the queue, which is re-examined (R51). -/
def Obligations.WithdrawRemovesTheWaiter : Prop :=
  ∀ (p : Port) (command : List Word) (s : State), InHand s p command 0x14 →
    let n := (commandWord command 1).toNat
    (7 < n → AnsweredOnly (.withdraw p) s p command .badParameter) ∧
    (n ≤ 7 → findWaiter s n = none → AnsweredOnly (.withdraw p) s p command .notFound) ∧
    (∀ w, n ≤ 7 → findWaiter s n = some w → (w.lock.owner ≠ p ∨ w.state = .denied) →
      AnsweredOnly (.withdraw p) s p command .notFound) ∧
    (∀ w wait, n ≤ 7 → findWaiter s n = some w → w.lock.owner = p → w.state = .waiting wait →
      ∃ t, exec (.withdraw p) s = .next t ∧ Answered s t p command .done ∧
        (∀ v ∈ t.waiters, v.slot ≠ n) ∧
        t = reexamine ((s.withWindows t.windows).withWaiters (s.waiters.filter fun v => decide (v.slot ≠ n))))

/-- A re-examination grants only into FREE entries, keeps the order of the waiters that stay, and leaves no waiter grantable while an
entry is FREE: one pass suffices (R45, R46, R47). -/
def Obligations.OnePassSuffices : Prop :=
  ∀ s : State, SlotsDistinct s →
    Reexamined s (reexamine s) ∧
      ∀ w ∈ (reexamine s).waiters, grantable (reexamine s) w = true → lowestFreeLock (reexamine s) = none

/-- The lease tick and the Lock Table: a reported lease is lowered by one, and one at its last tick expires, so that its owner's WAITING
and READY requests inside are HELD with LOCK LOST and the ACTIVE one is asked to stop; a HELD entry with its grant unreported
or NO LEASE and an ended entry are not changed; a FREE entry is left, or granted to a waiter in a re-examination (R24, R26, R28,
R71, R73, R116). -/
def Obligations.LeaseTickLowersTheLeases : Prop :=
  ∀ s : State, EntriesDistinct s → s.locks.length = 16 →
    ∃ t, exec .leaseTick s = .next t ∧
      WorkOnly ((s.withLocks t.locks).withWaiters t.waiters) t ∧
      ∀ i, i < 16 →
        (∀ g lock n, lockAt s i = ⟨g, .held lock (.reported (some n))⟩ → 2 ≤ n →
          lockAt t i = ⟨g, .held lock (.reported (some (n - 1)))⟩) ∧
        (∀ g lock, lockAt s i = ⟨g, .held lock (.reported (some 1))⟩ →
          LockCeased s t i lock .expired ∧ OwnerRef.lock i ∈ t.pendingRecords.get lock.owner) ∧
        (∀ g lock, lockAt s i = ⟨g, .held lock .unreported⟩ → lockAt t i = lockAt s i) ∧
        (∀ g lock, lockAt s i = ⟨g, .held lock (.reported none)⟩ → lockAt t i = lockAt s i) ∧
        (∀ g lock kind, lockAt s i = ⟨g, .ended lock kind⟩ → lockAt t i = lockAt s i) ∧
        ((lockAt s i).state = .free → LeftOrGranted s.waiters (lockAt s i) (lockAt t i))

/-- The lease tick and the Lock Wait Queue, at a tick that ends no lease: every limited wait is lowered by one, and one at its last
tick is denied and waits in its port's pending-record list; with none denied no waiter leaves and no lock is granted (R48,
R49). -/
def Obligations.LeaseTickCountsTheWaits : Prop :=
  ∀ s : State, SlotsDistinct s → (∀ e ∈ s.locks, e.expiring = false) →
    ∃ t, exec .leaseTick s = .next t ∧
      (∀ w ∈ s.waiters, w.expiring = true →
        { w with state := .denied } ∈ t.waiters ∧ OwnerRef.waiter w.slot ∈ t.pendingRecords.get w.lock.owner) ∧
      WaitersLeft (s.waiters.map fun w => { w with state := tickedWait w.state }) t.waiters ∧
      ((∀ w ∈ s.waiters, w.expiring = false) →
        t.waiters = s.waiters.map (fun w => { w with state := tickedWait w.state }) ∧
          t.pendingRecords = s.pendingRecords ∧ ∀ i, (lockAt t i).heldLock = (lockAt s i).heldLock)

/-- The expiry of one lease: the entry ends with kind EXPIRED, its owner's WAITING and READY requests inside are HELD with LOCK LOST and
the ACTIVE one is asked to stop, at once or at its block boundary, the entry joins its owner's pending-record list, and the queue
is re-examined (R28, R71, R73, R116). The denial of one waiter: it stands DENIED-REPORT-PENDING in its slot and at the end of
its port's pending-record list, and the queue is re-examined (R48, R49). That the events act only at the last tick is the model's
choice (log 4). -/
def Obligations.ExpiryAndDenialOnTheirOwn : Prop :=
  (∀ (i : Fin 16) (s : State), EntriesDistinct s →
     (∀ g lock, lockAt s i = ⟨g, .held lock (.reported (some 1))⟩ →
       ∃ t, exec (.leaseExpiry i) s = .next t ∧ LockCeased s t i lock .expired ∧
         (let ended := s.withLocks (s.locks.set i ⟨g, .ended lock .expired⟩);
           t.locks = (reexamine ended).locks ∧ t.waiters = (reexamine ended).waiters) ∧
         OwnerRef.lock i ∈ t.pendingRecords.get lock.owner ∧
         (∀ j, j ≠ i.val → LeftOrGranted s.waiters (lockAt s j) (lockAt t j)) ∧ WaitersLeft s.waiters t.waiters ∧
         WorkOnly ((s.withLocks t.locks).withWaiters t.waiters) t) ∧
     ((lockAt s i).expiring = false → exec (.leaseExpiry i) s = .next s)) ∧
  (∀ (slot : Fin 8) (s : State), SlotsDistinct s →
     (∀ w, findWaiter s slot = some w → w.state = .waiting (some 1) →
       ∃ t, exec (.waitDenial slot) s = .next t ∧ { w with state := .denied } ∈ t.waiters ∧
         t = reexamine
           ((s.withWaiters (s.waiters.map fun v => if v.slot = w.slot then { v with state := .denied } else v)).withPendingRecords
             (s.pendingRecords.set w.lock.owner
               (s.pendingRecords.get w.lock.owner ++ [OwnerRef.waiter w.slot])))) ∧
     ((∀ w, findWaiter s slot = some w → w.expiring = false) → exec (.waitDenial slot) s = .next s))

/-! ### Records, watches and notices -/

/-- The posting of a HELD request: its TRANSFER DONE record joins the queue's tail and the entry becomes FREE. The posting of an
unreported grant: the LOCK GRANTED record joins, and the lease starts. The posting of an ended lock frees its entry with the generation kept, and the posting of a denied waiter empties its slot; the queue is re-examined after each
(R30, R37, R50, R68, R141, R145, R146, R147). That a posting with none due changes nothing is the model's choice (log 3). -/
def Obligations.PostingReportsTheOldestItem : Prop :=
  (∀ (p : Port) (s : State),
     (∀ i rest r status failing, (s.completions.get p).length < 8 → s.pendingRecords.get p = .request i :: rest →
       findRequest s i = some r → r.state = .held status failing →
       exec (.posting p) s = .next
         { s with
           pendingRecords := s.pendingRecords.set p rest
           requests := s.requests.filter fun q => decide (q.index ≠ i)
           completions := s.completions.set p
             (s.completions.get p ++ [.transferDone r.tag status r.blocksDone r.retriesUsed failing]) }) ∧
     (∀ i rest g lock, (s.completions.get p).length < 8 → s.pendingRecords.get p = .lock i :: rest →
       lockAt s i = ⟨g, .held lock .unreported⟩ →
       exec (.posting p) s = .next
         { s with
           pendingRecords := s.pendingRecords.set p rest
           locks := s.locks.set i
             ⟨g, .held lock (.reported (if s.settings.leaseLength = 0 then none else some s.settings.leaseLength))⟩
           completions := s.completions.set p (s.completions.get p ++ [.lockGranted ⟨i, g⟩]) }) ∧
     ((8 ≤ (s.completions.get p).length ∨ s.pendingRecords.get p = []) → exec (.posting p) s = .next s)) ∧
  (∀ (p : Port) (s : State) (item : OwnerRef) (rest : List OwnerRef),
     (s.completions.get p).length < 8 → s.pendingRecords.get p = item :: rest →
     (∀ i g lock kind, item = .lock i → lockAt s i = ⟨g, .ended lock kind⟩ →
       ∃ t, exec (.posting p) s = .next t ∧
         t = reexamine
           (((s.withPendingRecords (s.pendingRecords.set p rest)).withLocks (s.locks.set i ⟨g, .free⟩)).withCompletions
             (s.completions.set p
               (s.completions.get p ++
                 [match kind with
                 | .expired => .lockExpired ⟨i, g⟩
                 | .forced => .lockForced ⟨i, g⟩])))) ∧
     (∀ slot w, item = .waiter slot → findWaiter s slot = some w → w.state = .denied →
       ∃ t, exec (.posting p) s = .next t ∧
         t = reexamine
           (((s.withPendingRecords (s.pendingRecords.set p rest)).withWaiters
               (s.waiters.filter fun v => decide (v.slot ≠ slot))).withCompletions
             (s.completions.set p (s.completions.get p ++ [.lockDenied slot])))))

/-- WATCH: the tests in order, and the lowest EMPTY slot SET; UNWATCH: the slot EMPTY, or the refusals (R155, R156). -/
def Obligations.WatchSlotsAreSetAndEmptied : Prop :=
  ∀ (p : Port) (command : List Word) (s : State),
    (InHand s p command 0x20 →
      let x := extentOf command 1
      (x.last < x.first → AnsweredOnly (.watch p) s p command .badParameter) ∧
      (x.first ≤ x.last → 5759 < x.last → AnsweredOnly (.watch p) s p command .outOfRange) ∧
      (x.first ≤ x.last → x.last ≤ 5759 → (∀ w ∈ s.watches.get p, w ≠ none) →
        AnsweredOnly (.watch p) s p command .watchFull) ∧
      (∀ n, x.first ≤ x.last → x.last ≤ 5759 → (s.watches.get p)[n]? = some none →
        (∀ m, m < n → (s.watches.get p)[m]? ≠ some none) →
        ∃ t, exec (.watch p) s = .next t ∧ Answered s t p command (.doneWatch n) ∧
          t = (s.withWindows t.windows).withWatches (s.watches.set p ((s.watches.get p).set n (some x))))) ∧
    (InHand s p command 0x21 →
      let n := (commandWord command 1).toNat
      (3 < n → AnsweredOnly (.unwatch p) s p command .badParameter) ∧
      (n ≤ 3 → (s.watches.get p)[n]? = some none → AnsweredOnly (.unwatch p) s p command .notFound) ∧
      (∀ x, n ≤ 3 → (s.watches.get p)[n]? = some (some x) →
        ∃ t, exec (.unwatch p) s = .next t ∧ Answered s t p command .done ∧
          t = (s.withWindows t.windows).withWatches (s.watches.set p ((s.watches.get p).set n none))))

/-- The oldest write report gives every port but the writer a notice for each of its watches that overlap it, in ascending order of
watch number; those that find room join its queue, and a notice dropped sets NOTICE LOST (R157, R158, R159). The list of the reports
that wait, and that with none waiting nothing happens, are the model's (log 3, log 16). -/
def Obligations.WriteReportOffersNotices : Prop :=
  (∀ (s : State) (report : WriteReport) (rest : List WriteReport),
    QueuesBounded s → s.writeReports = report :: rest →
    ∃ t, exec .writeReport s = .next t ∧ t = (s.withWriteReports rest).withNotices t.notices ∧
      t.notices.get report.writer = s.notices.get report.writer ∧
      ∀ p, p ≠ report.writer →
        t.notices.get p =
          ⟨((s.notices.get p).queue ++ matchingNotices report (s.watches.get p)).take 4,
            (s.notices.get p).lost ||
              decide (4 < (s.notices.get p).queue.length + (matchingNotices report (s.watches.get p)).length)⟩) ∧
    (∀ s : State, s.writeReports = [] → exec .writeReport s = .next s) ∧
    ∀ (report : WriteReport) (watches : List (Option Extent)) (n : Notice),
      n ∈ matchingNotices report watches ↔
        ∃ k x, watches[k]? = some (some x) ∧ x.first ≤ report.extent.last ∧ report.extent.first ≤ x.last ∧
          n = ⟨k, report.writer, ⟨max x.first report.extent.first, min x.last report.extent.last⟩, report.kind⟩

/-! ### The Shared Settings -/

/-- CLAIM TOKEN: the token, when no port holds it, goes to the issuing port; the holder is answered DONE, and another port TOKEN
HELD naming the holder. At power-on no port holds it (R165). -/
def Obligations.TokenIsClaimed : Prop :=
  State.reset.token = none ∧
  ∀ (p : Port) (command : List Word) (s : State), InHand s p command 0x30 →
    (s.token = none →
      ∃ t, exec (.claimToken p) s = .next t ∧ Answered s t p command .done ∧
        t = (s.withWindows t.windows).withToken (some p)) ∧
    (s.token = some p → AnsweredOnly (.claimToken p) s p command .done) ∧
    ∀ holder, s.token = some holder → holder ≠ p → AnsweredOnly (.claimToken p) s p command (.tokenHeld holder)

/-- RELEASE TOKEN: the holder's frees the token and changes no setting; any other port's is NO TOKEN and changes nothing. A port
reset of the holder frees it as well (R166). -/
def Obligations.TokenIsReleased : Prop :=
  (∀ (p : Port) (command : List Word) (s : State), InHand s p command 0x31 →
    (s.token = some p →
      ∃ t, exec (.releaseToken p) s = .next t ∧ Answered s t p command .done ∧
        t = (s.withWindows t.windows).withToken none) ∧
    (s.token ≠ some p → AnsweredOnly (.releaseToken p) s p command .noToken)) ∧
  ∀ (p : Port) (value : Word) (s : State), s.initLine.get p = false → s.token = some p →
    (∃ t, exec (.reset p value) s = .next t ∧ t.token = none) ∧ ∃ t, exec (.initAsserted p) s = .next t ∧ t.token = none

/-- SET SETTING: the token, the item, the range and the quota test in order; one that passes replaces its setting and no other
(R167, R168). -/
def Obligations.SettingIsSet : Prop :=
  ∀ (p : Port) (command : List Word) (s : State), InHand s p command 0x32 →
    let v := (commandWord command 2).toNat
    (s.token ≠ some p → AnsweredOnly (.setSetting p) s p command .noToken) ∧
    (s.token = some p →
      (itemOf (commandWord command 1) = none → AnsweredOnly (.setSetting p) s p command .badParameter) ∧
      ∀ item, itemOf (commandWord command 1) = some item →
        (item.inRange v = false → AnsweredOnly (.setSetting p) s p command .badParameter) ∧
        (∀ q, item = .quota q → v ≤ 32 → 32 < quotaSum (s.settings.quota.set q v) →
          AnsweredOnly (.setSetting p) s p command .badParameter) ∧
        (item.inRange v = true → (∀ q, item = .quota q → quotaSum (s.settings.quota.set q v) ≤ 32) →
          ∃ t, exec (.setSetting p) s = .next t ∧ Answered s t p command .done ∧
            t = (s.withWindows t.windows).withSettings (s.settings.setItem item v)))

/-- READ SETTINGS answers DONE with every setting and the token holder as they stand; a code that names no command is answered
UNKNOWN COMMAND; neither changes anything else (R170, R175). -/
def Obligations.SettingsAreReadAndUnknownRefused : Prop :=
  ∀ (p : Port) (command : List Word) (s : State),
    (InHand s p command 0x33 →
      AnsweredOnly (.readSettings p) s p command (.doneSettings s.settings s.token)) ∧
    ∀ code, code ∉ [0x01#8, 0x02#8, 0x03#8, 0x04#8, 0x05#8, 0x10#8, 0x11#8, 0x12#8, 0x13#8, 0x14#8, 0x20#8, 0x21#8, 0x30#8,
        0x31#8, 0x32#8, 0x33#8] →
      InHand s p command code → AnsweredOnly (.unknownCommand p) s p command .unknownCommand

/-! ### The Medium Sequencer and the drive -/

/-- A rising READY in OFFLINE or HOLDING stops the fault hold and recalibrates toward a limit of 2 s (R96). The fault hold expires in
HOLDING: the sequencer is OFFLINE, every WAITING and READY request of every port is HELD with DRIVE NOT READY, and the others stand
as they were (R78, R98). -/
def Obligations.HoldingAndOfflineAreLeft : Prop :=
  (∀ (wp : Bool) (s : State), s.drive.ready = false →
     (s.sequencer.state = .offline ∨ s.sequencer.state = .holding) →
     exec (.risingReady wp) s = .next
       { s with
         drive := ⟨true, wp, s.drive.writeGate, s.drive.writeData⟩
         sequencer :=
           { s.sequencer with
             state := .recalibrating
             outstanding := some .recalibrate
             positioningTimer := some 2000
             faultHoldTimer := none } }) ∧
  (∀ s : State, EntriesDistinct s → s.sequencer.state = .holding → s.sequencer.faultHoldTimer.isSome = true →
     ∃ t, exec .faultHoldExpiry s = .next t ∧ WorkOnly s t ∧
       t.sequencer = { s.sequencer with state := .offline, faultHoldTimer := none } ∧ t.drive = s.drive ∧
       (∀ r ∈ s.requests, r.state = .waiting ∨ r.state = .ready → HeldWith t r .driveNotReady none 0) ∧
       ∀ r ∈ s.requests, r.state ≠ .waiting → r.state ≠ .ready →
         ∃ q ∈ t.requests, q.index = r.index ∧ q.state = r.state)

/-- A falling READY: the position is UNKNOWN, WRITE GATE is negated and no positioning is outstanding; outside OFFLINE and HOLDING
the sequencer enters HOLDING with the fault-hold timer started, and the request it serves ends with DRIVE NOT READY (R13, R98,
R99, R113). -/
def Obligations.FallingReadyHolds : Prop :=
  ∀ (wp : Bool) (s : State), s.drive.ready = true →
    ((s.sequencer.state = .offline ∨ s.sequencer.state = .holding) →
      exec (.fallingReady wp) s = .next
        { s with
          drive := ⟨false, wp, false, []⟩
          sequencer := { s.sequencer with position := none, outstanding := none, positioningTimer := none } }) ∧
    ((s.sequencer.state = .recalibrating ∨ s.sequencer.state = .idle) →
      exec (.fallingReady wp) s = .next
        { s with
          drive := ⟨false, wp, false, []⟩
          sequencer :=
            { s.sequencer with
              state := .holding
              position := none
              outstanding := none
              positioningTimer := none
              faultHoldTimer := some s.settings.faultHold } }) ∧
    ∀ st v r, serving st = true → Serves s st v r → served r = true →
      ∃ t, exec (.fallingReady wp) s = .next t ∧ WorkOnly s t ∧ EndedAs t r .driveNotReady none 0 ∧
        t.drive = ⟨false, wp, false, []⟩ ∧
        t.sequencer =
          { s.sequencer with
            state := .holding
            position := none
            outstanding := none
            positioningTimer := none
            settleTimer := none
            faultHoldTimer := some s.settings.faultHold
            service := none }

/-- INDEX and BLOCK MARK while READY is negated are disregarded; while it is asserted each sets the rotational position, and is handed on
in SEARCHING, TRANSFERRING and FORMATTING. In SEARCHING the first INDEX is counted, the second ends the request with HEADER NOT
FOUND naming the current block, and a mark begins a header. In TRANSFERRING each leaves the field of a READ or VERIFY incomplete, as
an end of the field cut short does. In FORMATTING the first INDEX begins the track, a mark after it or between two blocks begins the
next block with WRITE GATE asserted, and an INDEX or a mark out of turn ends the request with HEADER NOT FOUND (R9, R10, R14, R103,
R109, R113, R118, R119). The fields that show a header begun and how far a track has come are the model's (log 11); that the cut
field has its check error in the event of the pulse (log 12), that a pulse inside the field of a WRITE moves the position alone
(log 18), and that a second INDEX before the first mark of a track does so too (log 19), are its readings. -/
def Obligations.PulsesAreTaken : Prop :=
  (∀ (wp : Bool) (s : State),
     let atIndex : Sequencer := { s.sequencer with position := some 0 }
     let atMark : Sequencer := { s.sequencer with position := s.sequencer.position.map fun p => (p + 1) % 12 }
     (s.drive.ready = false →
       exec (.index wp) s = .next (s.withDrive (sensed s wp)) ∧ exec (.blockMark wp) s = .next (s.withDrive (sensed s wp))) ∧
     (s.drive.ready = true →
       (s.sequencer.state ≠ .searching → s.sequencer.state ≠ .transferring → s.sequencer.state ≠ .formatting →
         exec (.index wp) s = .next { s with drive := sensed s wp, sequencer := atIndex } ∧
         exec (.blockMark wp) s = .next { s with drive := sensed s wp, sequencer := atMark }) ∧
       ∀ v, s.sequencer.service = some v →
         (s.sequencer.state = .searching →
           (v.indexPasses = 0 →
             exec (.index wp) s = .next
               { s with
                 drive := sensed s wp
                 sequencer := { atIndex with service := some { v with indexPasses := 1, headerReading := false } } }) ∧
           exec (.blockMark wp) s = .next
             { s with
               drive := sensed s wp
               sequencer := { atMark with service := some { v with headerReading := true } } }) ∧
         (∀ r a, s.sequencer.state = .transferring → findRequest s v.entry = some r → r.operation = .write a →
           exec (.index wp) s = .next { s with drive := sensed s wp, sequencer := atIndex } ∧
           exec (.blockMark wp) s = .next { s with drive := sensed s wp, sequencer := atMark }) ∧
         (∀ r, s.sequencer.state = .transferring → findRequest s v.entry = some r →
           delivers r.operation = true ∨ r.operation = .verify →
           exec (.index wp) s = exec (.dataFieldEnd wp []) (s.withSequencer atIndex) ∧
           exec (.blockMark wp) s = exec (.dataFieldEnd wp []) (s.withSequencer atMark)) ∧
         (s.sequencer.state = .formatting →
           (v.phase = .waitIndex →
             exec (.index wp) s = .next
               { s with
                 drive := sensed s wp
                 sequencer := { atIndex with service := some { v with phase := .begun } } } ∧
             exec (.blockMark wp) s = .next { s with drive := sensed s wp, sequencer := atMark }) ∧
           (v.phase = .begun →
             exec (.index wp) s = .next { s with drive := sensed s wp, sequencer := atIndex }) ∧
           (∀ r, v.phase = .begun ∨ v.phase = .gap → findRequest s v.entry = some r →
             ∃ t, exec (.blockMark wp) s = .next t ∧ t = (s.withDrive t.drive).withSequencer t.sequencer ∧
               t.drive.writeGate = true ∧
               t.sequencer = { atMark with service := some { v with written := v.written + 1, phase := .writing } })))) ∧
  (∀ (wp : Bool) (s : State) (v : Service) (r : Request),
     s.drive.ready = true → Serves s .searching v r → served r = true → 1 ≤ v.indexPasses →
     ∃ t, exec (.index wp) s = .next t ∧ WorkOnly s t ∧
       EndedAs t r .headerNotFound (some v.current) v.retriesSpent ∧ t.sequencer.position = some 0) ∧
  (∀ (c : Instr) (wp : Bool) (s : State) (v : Service) (r : Request),
     s.drive.ready = true → Serves s .formatting v r → served r = true →
     (c = .index wp ∧ (v.phase = .writing ∨ v.phase = .gap)) ∨ (c = .blockMark wp ∧ v.phase = .writing) →
     ∃ t, exec c s = .next t ∧ WorkOnly s t ∧ t.drive.writeGate = false ∧
       EndedAs t r .headerNotFound (some (if v.phase = .gap then v.current + v.written else v.current + v.written - 1))
         v.retriesSpent)

/-- FORMAT TRACK: each mark after the INDEX asserts WRITE GATE, raises written blocks and records the header, with its flag from the
defect mask, and the data field of its block; the end of a data field before block 11's leaves WRITE GATE asserted for the next
mark; a mark or INDEX out of turn ends the request with HEADER NOT FOUND; the end of block 11's data field finishes the track as one
finish of 12 blocks, with its written extent reported and WRITE GATE negated (R4, R65, R112, R114, R119). The write data stream, the
progress through the track and the list of reports are the model's (log 7, log 11, log 16). -/
def Obligations.FormatTrackWritesAndFinishes : Prop :=
  (∀ (wp : Bool) (s : State) (v : Service) (r : Request) (defects : BitVec 12) (fill : Byte),
     s.drive.ready = true → Serves s .formatting v r → r.operation = .format defects fill →
     ((v.phase = .begun ∨ v.phase = .gap) →
       exec (.blockMark wp) s = .next
         { s with
           drive := ⟨true, wp, true,
             withCheck [BitVec.ofNat 8 (cylinderOf r.first), BitVec.ofNat 8 (headOf r.first), BitVec.ofNat 8 v.written,
               if defects.getLsbD v.written then 1 else 0] ++ withCheck (List.replicate 512 fill)⟩
           sequencer :=
             { s.sequencer with
               position := s.sequencer.position.map fun p => (p + 1) % 12
               service := some { v with written := v.written + 1, phase := .writing } } }) ∧
     (∀ field, v.phase = .writing → v.written < 12 →
       exec (.dataFieldEnd wp field) s = .next
         { s with
           drive := ⟨true, wp, true, []⟩
           sequencer := { s.sequencer with service := some { v with phase := .gap } } }) ∧
     (∀ c, v.phase = .writing → served r = true → c = .index wp ∨ c = .blockMark wp →
       ∃ t, exec c s = .next t ∧ WorkOnly s t ∧
         EndedAs t r .headerNotFound (some (v.current + v.written - 1)) v.retriesSpent) ∧
     (v.phase = .gap → served r = true →
       ∃ t, exec (.index wp) s = .next t ∧ WorkOnly s t ∧
         EndedAs t r .headerNotFound (some (v.current + v.written)) v.retriesSpent)) ∧
  (∀ (wp : Bool) (field : List Byte) (s : State) (v : Service) (r : Request) (defects : BitVec 12) (fill : Byte),
     Serves s .formatting v r → r.operation = .format defects fill → served r = true → v.phase = .writing →
     v.written = 12 →
     ∃ t, exec (.dataFieldEnd wp field) s = .next t ∧ WorkOnly s t ∧
       EndedAs t (withBlocks 12 0 r) .ok none v.retriesSpent ∧ t.drive.writeGate = false ∧
       t.writeReports =
         (if r.state = .orphaned then s.writeReports
         else s.writeReports ++ [⟨r.port, ⟨r.first, r.first + 11⟩, .formatted⟩]))

/-- A header read in SEARCHING with a check error is disregarded; a good header of the believed cylinder and selected head fixes the
position, and one of another block is passed over; a good header that names another place is a header mismatch: the first of a
positioning issues RECALIBRATE, and one after the recovery has been used ends the request with POSITION ERROR naming the current
block (R10, R102, R104, R113). The field that says a header is being read is the model's (log 11), and so is the reading that a READ
keeps its current buffer through a recovery begun on a retry (log 15). -/
def Obligations.HeadersOffTheTarget : Prop :=
  (∀ (wp : Bool) (field : List Byte) (s : State) (v : Service),
     s.sequencer.state = .searching → s.sequencer.service = some v → v.headerReading = true →
     (readHeader field = none →
       exec (.headerRead wp field) s = .next
         { s with
           drive := sensed s wp
           sequencer := { s.sequencer with service := some { v with headerReading := false } } }) ∧
     (∀ h, readHeader field = some h → s.sequencer.believed = some h.cylinder → h.head = s.sequencer.head → h.block < 12 →
       h.block ≠ v.current % 12 →
       exec (.headerRead wp field) s = .next
         { s with
           drive := sensed s wp
           sequencer :=
             { s.sequencer with
               position := some ((h.block + 1) % 12)
               service := some { v with headerReading := false } } })) ∧
  (∀ (wp : Bool) (field : List Byte) (s : State) (v : Service) (r : Request) (h : Header),
     Serves s .searching v r → served r = true → v.headerReading = true → readHeader field = some h →
     (s.sequencer.believed ≠ some h.cylinder ∨ h.head ≠ s.sequencer.head ∨ 12 ≤ h.block) →
     ∃ t, exec (.headerRead wp field) s = .next t ∧ WorkOnly s t ∧
       (v.recovery = .unused → t.sequencer = recovering s.sequencer v ∧ t.requests = s.requests) ∧
       (v.recovery ≠ .unused → EndedAs t r .positionError (some v.current) v.retriesSpent))

/-- The target header. Of a block that is not DEFECTIVE: VERIFY transfers at once; READ with its kept buffer, or with the lowest FREE
buffer while it holds fewer than three, and slips otherwise; WRITE with the block's LOADED buffer and WRITE PROTECT negated asserts
WRITE GATE and records the data field, and slips with no LOADED buffer. A DEFECTIVE block gives DEFECTIVE BLOCK, and WRITE PROTECT
asserted at a WRITE's LOADED block gives WRITE PROTECTED, each naming the current block (R4, R8, R104, R105, R106, R113, R125). That the
event carries the level of WRITE PROTECT and the stream the words recorded is the model's choice (log 6, log 7). -/
def Obligations.HeaderAtTheTarget : Prop :=
  (∀ (wp : Bool) (field : List Byte) (s : State) (v : Service) (r : Request) (h : Header),
     Serves s .searching v r → v.headerReading = true → readHeader field = some h →
     s.sequencer.believed = some h.cylinder → h.head = s.sequencer.head → h.block = v.current % 12 →
     h.defective = false →
     let w : Service := { v with headerReading := false, indexPasses := 0 }
     let found : Sequencer := { s.sequencer with position := some ((h.block + 1) % 12), service := some w }
     (r.operation = .verify →
       exec (.headerRead wp field) s = .next
         { s with drive := sensed s wp, sequencer := { found with state := .transferring } }) ∧
     (∀ a i, r.operation = .read a → v.buffer = some i →
       exec (.headerRead wp field) s = .next
         { s with drive := sensed s wp, sequencer := { found with state := .transferring } }) ∧
     (∀ a i, r.operation = .read a → v.buffer = none → (boundBuffers s r.index).length < 3 →
       s.buffers[i]? = some none → (∀ j, j < i → s.buffers[j]? ≠ some none) →
       exec (.headerRead wp field) s = .next
         { s with
           drive := sensed s wp
           buffers := s.buffers.set i (some ⟨r.index, v.current, .filling⟩)
           sequencer := { found with state := .transferring, service := some { w with buffer := some i } } }) ∧
     (∀ a, r.operation = .read a → v.buffer = none →
       (3 ≤ (boundBuffers s r.index).length ∨ ∀ b ∈ s.buffers, b ≠ none) →
       exec (.headerRead wp field) s = .next { s with drive := sensed s wp, sequencer := found }) ∧
     (∀ a i data, r.operation = .write a → wp = false → loadedBuffer s r.index v.current = some (i, data) →
       exec (.headerRead wp field) s = .next
         { s with
           drive := ⟨s.drive.ready, false, true, withCheck (bytesOfWords data)⟩
           buffers := s.buffers.set i (some ⟨r.index, v.current, .writing data⟩)
           sequencer :=
             { found with state := .transferring, service := some { w with written := v.written + 1 } } }) ∧
     (∀ a, r.operation = .write a →
       (∀ b ∈ s.buffers, ∀ data, b ≠ some ⟨r.index, v.current, .loaded data⟩) →
       exec (.headerRead wp field) s = .next { s with drive := sensed s wp, sequencer := found })) ∧
  (∀ (wp : Bool) (field : List Byte) (s : State) (v : Service) (r : Request) (h : Header),
     Serves s .searching v r → served r = true → v.headerReading = true → readHeader field = some h →
     s.sequencer.believed = some h.cylinder → h.head = s.sequencer.head → h.block = v.current % 12 →
     (h.defective = true →
       ∃ t, exec (.headerRead wp field) s = .next t ∧ WorkOnly s t ∧
         EndedAs t r .defectiveBlock (some v.current) v.retriesSpent) ∧
     (∀ a i data, h.defective = false → r.operation = .write a →
       loadedBuffer s r.index v.current = some (i, data) → wp = true →
       ∃ t, exec (.headerRead wp field) s = .next t ∧ WorkOnly s t ∧
         EndedAs t r .writeProtected (some v.current) v.retriesSpent))

/-- A block finished good that is not the request's last, with no stop asked: its count rises, the buffer of a READ is FULL with the
block's words, or already taken for delivery, WRITE GATE is removed from a WRITE, and the sequencer goes on to the next block; after
it no engine without a buffer stands beside one it could take, and a WRITE's prefetch has claimed what it may (R65, R107, R108, R110,
R111, R128, R130, R133). -/
def Obligations.BlockFinishedGoesOn : Prop :=
  ∀ (wp : Bool) (field : List Byte) (s : State) (v : Service) (r : Request),
    Serves s .transferring v r → v.current ≠ r.last → v.stopAsked = false →
    (∀ a i b, r.operation = .read a → v.orphan = false → v.buffer = some i → bufferAt s i = some b →
      b.entry = r.index → dataFieldGood field = true →
      ∃ t, exec (.dataFieldEnd wp field) s = .next t ∧ WorkOnly s t ∧
        t.sequencer = wentOn s.sequencer { v with buffer := none } ∧
        t.requests = s.requests.map (fun q => if q.index = r.index then withBlocks 1 v.retriesSpent q else q) ∧
        (bufferAt t i = some { b with state := .full (wordsOfBytes (field.take 512)) } ∨
          bufferAt t i = some { b with state := .draining 0 (wordsOfBytes (field.take 512)) }) ∧
        (OneServed s → EnginesSettled t)) ∧
    (r.operation = .verify → dataFieldGood field = true →
      ∃ t, exec (.dataFieldEnd wp field) s = .next t ∧ WorkOnly s t ∧ t.sequencer = wentOn s.sequencer v ∧
        t.requests = s.requests.map (fun q => if q.index = r.index then withBlocks 1 v.retriesSpent q else q)) ∧
    (∀ a, r.operation = .write a →
      ∃ t, exec (.dataFieldEnd wp field) s = .next t ∧ WorkOnly s t ∧ t.sequencer = wentOn s.sequencer v ∧
        t.requests = s.requests.map (fun q => if q.index = r.index then withBlocks 1 0 q else q) ∧
        t.drive = ⟨s.drive.ready, wp, false, []⟩ ∧ (OneServed s → EnginesSettled t))

/-- A block finished good that is the last of its request ends it with OK: a READ with blocks still to deliver is DRAINING, any other is
HELD, a stop pending stands, and a WRITE reports its written extent. A stop asked is taken at the block boundary: a block finished
good there is counted, and the request ends with its stop, or is freed when an orphan (R65, R66, R71, R72, R110, R112, R114, R116,
R117, R157). The list of the reports that wait is the model's (log 16). -/
def Obligations.RequestEndsAtABlockBoundary : Prop :=
  (∀ (wp : Bool) (field : List Byte) (s : State) (v : Service) (r : Request),
     Serves s .transferring v r → served r = true → v.current = r.last →
     (∀ a, (r.operation = .read a ∨ r.operation = .verify) → dataFieldGood field = true →
       ∃ t, exec (.dataFieldEnd wp field) s = .next t ∧ WorkOnly s t ∧
         EndedAs t (withBlocks 1 v.retriesSpent r) .ok none v.retriesSpent ∧ t.writeReports = s.writeReports) ∧
     (∀ a, r.operation = .write a →
       ∃ t, exec (.dataFieldEnd wp field) s = .next t ∧ WorkOnly s t ∧
         EndedAs t (withBlocks 1 0 r) .ok none v.retriesSpent ∧ t.drive.writeGate = false ∧
         t.writeReports =
           (if r.state = .orphaned ∨ v.written = 0 then s.writeReports
           else s.writeReports ++ [⟨r.port, ⟨r.first, r.first + v.written - 1⟩, .written⟩]))) ∧
  (∀ (wp : Bool) (field : List Byte) (s : State) (v : Service) (r : Request),
     Serves s .transferring v r → v.current ≠ r.last → v.stopAsked = true →
     (r.state = .orphaned ∨ ∃ stop, r.state = .active (some stop)) →
     (∀ a, (r.operation = .read a ∨ r.operation = .verify) →
       ∃ t, exec (.dataFieldEnd wp field) s = .next t ∧ WorkOnly s t ∧
         (dataFieldGood field = true → EndedAs t (withBlocks 1 v.retriesSpent r) .ok none v.retriesSpent) ∧
         (dataFieldGood field = false → EndedAs t r .ok none v.retriesSpent)) ∧
     (∀ a, r.operation = .write a →
       ∃ t, exec (.dataFieldEnd wp field) s = .next t ∧ WorkOnly s t ∧
         EndedAs t (withBlocks 1 0 r) .ok none v.retriesSpent))

/-- A data check error, by the field's check word or by a pulse that leaves the field incomplete: with a retry left the block is
searched for again, and with none the request ends with DATA CHECK naming it (R14, R109). That a pulse ends the field in the
same event is the model's reading (log 12). -/
def Obligations.DataCheckIsRetried : Prop :=
  ∀ (c : Instr) (s : State) (v : Service) (r : Request),
    Serves s .transferring v r → served r = true → delivers r.operation = true ∨ r.operation = .verify →
    v.stopAsked = false →
    ((∃ wp field, c = .dataFieldEnd wp field ∧ dataFieldGood field = false) ∨
      (s.drive.ready = true ∧ ∃ wp, c = .index wp ∨ c = .blockMark wp)) →
    ∃ t, exec c s = .next t ∧ WorkOnly s t ∧
      (v.retriesSpent < s.settings.retryCount →
        t.requests = s.requests ∧
          t.sequencer =
            searchingFor { s.sequencer with position := positionAfter c s } { v with retriesSpent := v.retriesSpent + 1 }) ∧
      (s.settings.retryCount ≤ v.retriesSpent → EndedAs t r .dataCheck (some v.current) v.retriesSpent)

/-- SEEK DONE: with no positioning outstanding it is disregarded; after a recalibration at start-up the sequencer is IDLE on cylinder
0 and takes a READY request if there is one; for a request it settles, or takes the next step of a recovery, or takes a stop
asked (R11, R97, R101, R102, R116). -/
def Obligations.SeekDoneArrives : Prop :=
  ∀ (wp : Bool) (s : State),
    (s.sequencer.outstanding = none → exec (.seekDone wp) s = .next (s.withDrive (sensed s wp))) ∧
    ∀ positioning, s.sequencer.outstanding = some positioning →
      let arrived : Sequencer :=
        { s.sequencer with
          outstanding := none
          positioningTimer := none
          believed := some (match positioning with
            | .seek cylinder => cylinder
            | .recalibrate => 0) }
      (s.sequencer.state = .recalibrating →
        ∃ t, exec (.seekDone wp) s = .next t ∧ WorkOnly s t ∧
          (readyRequests s = [] → t.sequencer = { arrived with state := .idle } ∧ t.requests = s.requests) ∧
          (t.sequencer.state = .idle → readyRequests t = [])) ∧
      ∀ v, s.sequencer.state = .seeking → s.sequencer.service = some v →
        (v.stopAsked = false →
          let settling : Sequencer := { arrived with state := .settling, settleTimer := some s.settings.settleTime }
          ((v.recovery = .unused ∨ v.recovery = .used) →
            exec (.seekDone wp) s = .next { s with drive := sensed s wp, sequencer := settling }) ∧
          (v.recovery = .reSeekStep ∨ (v.recovery = .recalibrateStep ∧ v.target = 0) →
            exec (.seekDone wp) s = .next
              { s with
                drive := sensed s wp
                sequencer := { settling with service := some { v with recovery := .used } } }) ∧
          (v.recovery = .recalibrateStep → v.target ≠ 0 →
            exec (.seekDone wp) s = .next
              { s with
                drive := sensed s wp
                sequencer :=
                  { arrived with
                    outstanding := some (.seek v.target)
                    positioningTimer := some 1000
                    service := some { v with recovery := .reSeekStep } } })) ∧
        ∀ r, v.stopAsked = true → findRequest s v.entry = some r →
          (r.state = .orphaned ∨ ∃ stop, r.state = .active (some stop)) →
          ∃ t, exec (.seekDone wp) s = .next t ∧ WorkOnly s t ∧ EndedAs t r .ok none v.retriesSpent

/-- The positioning limit: RECALIBRATING enters OFFLINE and ends the WAITING and READY requests; SEEKING takes a stop asked, else
recovers once and then ends the request with POSITION ERROR (R97, R101, R102, R116). -/
def Obligations.PositioningLimitIsHandled : Prop :=
  ∀ (s : State) (limit : Nat) (positioning : Positioning),
    s.sequencer.positioningTimer = some limit → s.sequencer.outstanding = some positioning →
    let abandoned : Sequencer := { s.sequencer with outstanding := none, positioningTimer := none }
    (s.sequencer.state = .recalibrating → EntriesDistinct s →
      ∃ t, exec .positioningTimeLimit s = .next t ∧ WorkOnly s t ∧
        t.sequencer = { abandoned with state := .offline } ∧
        ∀ r ∈ s.requests, r.state = .waiting ∨ r.state = .ready → HeldWith t r .driveNotReady none 0) ∧
    ∀ v r, Serves s .seeking v r → served r = true →
      ∃ t, exec .positioningTimeLimit s = .next t ∧ WorkOnly s t ∧
        (v.stopAsked = true → r.state ≠ .active none → EndedAs t r .ok none v.retriesSpent) ∧
        (v.stopAsked = false → v.recovery = .unused →
          t.sequencer = recovering s.sequencer v ∧ t.requests = s.requests) ∧
        (v.stopAsked = false → v.recovery ≠ .unused →
          EndedAs t r .positionError (some v.current) v.retriesSpent)

/-- The settle timer expires: a FORMAT TRACK samples WRITE PROTECT and waits for INDEX, or ends with WRITE PROTECTED naming block 0
of its track; any other request is searched for (R8, R101, R103, R118). -/
def Obligations.SettlingEnds : Prop :=
  ∀ (s : State) (limit : Nat) (v : Service) (r : Request),
    Serves s .settling v r → s.sequencer.settleTimer = some limit →
    (r.operation.isFormat = false →
      exec .settleExpiry s = .next
        (s.withSequencer (searchingFor { s.sequencer with settleTimer := none } v))) ∧
    (r.operation.isFormat = true → s.drive.writeProtect = false →
      ∃ t, exec .settleExpiry s = .next t ∧ WorkOnly s t ∧ t.requests = s.requests ∧ t.drive = s.drive ∧
        t.sequencer =
          { s.sequencer with
            state := .formatting
            settleTimer := none
            head := headOf v.current
            service := some { v with headerReading := false, phase := .waitIndex } }) ∧
    (r.operation.isFormat = true → s.drive.writeProtect = true → served r = true →
      ∃ t, exec .settleExpiry s = .next t ∧ WorkOnly s t ∧
        EndedAs t r .writeProtected (some v.current) v.retriesSpent)

/-- The rotational position follows the table of R10 row by row, and no other command changes it. -/
def Obligations.RotationalPositionFollowsTheTable : Prop :=
  ∀ (c : Instr) (s : State), ∃ t, exec c s = .next t ∧ t.sequencer.position = positionAfter c s

/-- A field is good exactly when it is whole and leaves the check register at zero when it is carried on through the stored check
word; a field written by the part is good; and a header and a block written read back as they were (R3, R4, R5, R6). -/
def Obligations.FieldsReadBackAsWritten : Prop :=
  (∀ (n : Nat) (field : List Byte), fieldGood n field = true ↔ field.length = n + 2 ∧ checkWord field = 0) ∧
  (∀ bytes : List Byte, fieldGood bytes.length (withCheck bytes) = true) ∧
  (∀ (c h b : Nat) (defective : Bool), c ≤ 239 → h ≤ 1 → b ≤ 11 →
    readHeader (headerField c h b defective) = some ⟨c, h, b, defective⟩) ∧
  ∀ data : List Word, data.length = 256 →
    dataFieldGood (dataField data) = true ∧ dataFieldWords (dataField data) = data

/-- A block address and its cylinder, head and block number name one another, and extents overlap when they have a block in common
(R1). -/
def Obligations.BlockAddressesNameOnePlace : Prop :=
  (∀ n : Nat, n ≤ 5759 →
    cylinderOf n ≤ 239 ∧ headOf n ≤ 1 ∧ blockOf n ≤ 11 ∧ blockAddress (cylinderOf n) (headOf n) (blockOf n) = n) ∧
  (∀ c h b : Nat, c ≤ 239 → h ≤ 1 → b ≤ 11 →
    blockAddress c h b ≤ 5759 ∧ cylinderOf (blockAddress c h b) = c ∧ headOf (blockAddress c h b) = h ∧
      blockOf (blockAddress c h b) = b) ∧
  ∀ x y : Extent, x.first ≤ x.last → y.first ≤ y.last →
    (x.overlaps y = true ↔ ∃ n, x.contains n = true ∧ y.contains n = true) ∧
    ∀ n, (x.contains n = true ∧ y.contains n = true) ↔ (x.overlaps y = true ∧ (x.intersection y).contains n = true)

/-! ### The Head Scheduler -/

/-- The scheduler's choice: a READY request whenever there is one; the oldest with pass count 16, if any; else on the current cylinder
the soonest block, the oldest on a tie or when the position is UNKNOWN; else the nearest cylinder in the sweep direction, and
when none lies there the nearest in the other (R82, R84, R85, R86, R87, R88). -/
def Obligations.SchedulerChoosesByItsRules : Prop :=
  ∀ (s : State) (current : Nat), s.sequencer.believed = some current →
    (chooseRequest s = none ↔ readyRequests s = []) ∧
    ∀ r, chooseRequest s = some r →
      (∃ older younger, readyRequests s = older ++ r :: younger ∧
        ((∃ q ∈ readyRequests s, q.passCount = 16) → r.passCount = 16 ∧ ∀ q ∈ older, q.passCount ≠ 16) ∧
        ((∀ q ∈ readyRequests s, q.passCount ≠ 16) →
          (∀ p, s.sequencer.position = some p → p < 12 →
            (∀ q ∈ readyRequests s, q.cylinder = r.cylinder →
              (r.first % 12 + 12 - p) % 12 ≤ (q.first % 12 + 12 - p) % 12) ∧
            ∀ q ∈ older, q.cylinder = r.cylinder →
              (r.first % 12 + 12 - p) % 12 ≠ (q.first % 12 + 12 - p) % 12) ∧
          (s.sequencer.position = none → ∀ q ∈ older, q.cylinder ≠ r.cylinder))) ∧
      ((∀ q ∈ readyRequests s, q.passCount ≠ 16) →
        ((∃ q ∈ readyRequests s, q.cylinder = current) → r.cylinder = current) ∧
        ((∀ q ∈ readyRequests s, q.cylinder ≠ current) →
          ((∃ q ∈ readyRequests s, liesAhead s.sweep current q.cylinder = true) →
            liesAhead s.sweep current r.cylinder = true) ∧
          ∀ q ∈ readyRequests s, liesAhead s.sweep current q.cylinder = liesAhead s.sweep current r.cylinder →
            cylinderDistance r.cylinder current ≤ cylinderDistance q.cylinder current))

/-- A choice hands the request over: it enters ACTIVE, the pass counts of the other READY requests rise to at most 16, the sweep turns
toward its cylinder, and the sequencer seeks to another cylinder, and on its own searches, or waits for INDEX for a FORMAT TRACK,
which ends with WRITE PROTECTED naming block 0 of its track where that line is asserted (R81, R89, R90, R100, R118). For a WRITE its
port's engine begins its prefetch at the first block, and claims a LOADING buffer for block after block until one of the conditions
fails or no buffer is FREE, where the claim waits; a port's engine without a buffer takes its work (R125, R127, R130, R133). The
service record holds the model's two fields of progress as well (log 11), and the claims and choices of an event follow the
hand-over in the model's order (log 13). -/
def Obligations.HandOverStartsTheRequest : Prop :=
  (∀ (s : State) (r : Request) (current : Nat), s.sequencer.believed = some current →
    (handOver r s).sweep =
      (if current < cylinderOf r.first then .higher else if cylinderOf r.first < current then .lower else s.sweep) ∧
    WorkOnly s (handOver r s) ∧
    (r.operation.isFormat = false ∨ cylinderOf r.first ≠ current ∨ s.drive.writeProtect = false →
      (handOver r s).requests = s.requests.map (fun q =>
        if q.index = r.index then { q with state := .active none }
        else if q.state = .ready then { q with passCount := min (q.passCount + 1) 16 }
        else q) ∧
      (handOver r s).sequencer =
        { s.sequencer with
          state :=
            if cylinderOf r.first = current then (if r.operation.isFormat then .formatting else .searching) else .seeking
          head := headOf r.first
          outstanding := if cylinderOf r.first = current then s.sequencer.outstanding else some (.seek (cylinderOf r.first))
          positioningTimer := if cylinderOf r.first = current then s.sequencer.positioningTimer else some 1000
          service := some ⟨r.index, r.first, cylinderOf r.first, .unused, 0, 0, 0, false, false, none, false, .waitIndex⟩ } ∧
      (handOver r s).engines =
        (match r.operation with
        | .write _ =>
          s.engines.set r.port { s.engines.get r.port with prefetch := some ⟨r.index, r.first⟩ }
        | _ => s.engines) ∧
      (handOver r s).buffers = s.buffers ∧ (handOver r s).drive = s.drive) ∧
    (EntriesDistinct s → r ∈ s.requests → r.operation.isFormat = true → cylinderOf r.first = current →
      s.drive.writeProtect = true →
      HeldWith (handOver r s) r .writeProtected (some r.first) 0 ∧ (handOver r s).writeReports = s.writeReports ∧
        (handOver r s).sequencer =
          { s.sequencer with
            state := .idle, head := headOf r.first, positioningTimer := none, settleTimer := none, service := none })) ∧
  ∀ (s : State) (r : Request) (current : Nat), OneServed s → s.sequencer.state = .idle → s.sequencer.believed = some current →
    r ∈ s.requests → (∃ a, r.operation = .write a) →
    let t := settle (handOver r s)
    EnginesSettled t ∧
      (∃ claimed, (t.engines.get r.port).prefetch = some ⟨r.index, r.first + claimed⟩ ∧ claimed ≤ 3 ∧
        ∀ k, k < claimed → ∃ i, bufferAt t i = some ⟨r.index, r.first + k, .loading []⟩) ∧
      ((s.engines.get r.port).current = none → s.initLine.get r.port = false →
        (t.engines.get r.port).current = none ∨ TakesWork t r.port)

/-! ### The host bus -/

/-- BUS GRANT: the timer stops and the engine moves; the buffer base is read at the first burst of a buffer and kept; the burst's first
word goes to the host address plus 512 a block and 2 a word below the base; a drain burst takes its 16 words (R134, R135). A grant
with the bus request negated moves nothing (R136). That the engine holds the burst's words and address, and that a grant with no
request changes nothing, are the model's choices (log 3, log 8); that a grant is taken for whatever request stands, one made again in
the event of a timeout included, is its reading (log 24). -/
def Obligations.BusGrantMovesOneBurst : Prop :=
  ∀ (p : Port) (s : State),
    (∀ i b r, (s.engines.get p).state = .requesting → (s.engines.get p).current = some i → bufferAt s i = some b →
      findRequest s b.entry = some r →
      ∃ t e, exec (.busGrant p) s = .next t ∧ t = s.withEngines (s.engines.set p e) ∧
        e.state = .moving ∧ e.timer = none ∧ e.current = some i ∧
        e.bufferBase = (if b.wordsMoved = 0 then s.windowBase.get p else (s.engines.get p).bufferBase) ∧
        (∀ a, r.operation = .read a ∨ r.operation = .write a →
          a + 512 * (b.block - r.first) + 2 * b.wordsMoved < 16777216 →
          e.burstAddress.toNat =
            e.bufferBase.toNat * 16777216 + (a + 512 * (b.block - r.first) + 2 * b.wordsMoved)) ∧
        ∀ moved data, b.state = .draining moved data → e.burstRegister = (data.drop moved).take 16) ∧
    ((s.engines.get p).state ≠ .requesting → exec (.busGrant p) s = .next s)

/-- The end of a burst short of 256 words: 16 words moved, a load burst's words placed in the buffer in order, and the bus requested again
with its timer started. The end of a buffer's last burst: a load leaves the buffer LOADED with its 256 words; a delivery raises
blocks done of its READ, and ends a DRAINING READ whose good blocks are all delivered. The end of a withdrawn burst changes no
request and reports nothing: a buffer is as it was or taken by an engine, and a FREE one FREE or newly claimed (R69, R127, R129, R131,
R135, R136, R137). An engine that a burst leaves without a buffer chooses again: of its ACTIVE request the eligible buffer with
the lowest block, else that of its oldest DRAINING READ, else it is IDLE; and no engine is left beside work it could do (R130,
R133). -/
def Obligations.BurstsMoveTheBuffer : Prop :=
  (∀ (p : Port) (words : Vector Word 16) (s : State) (i : Nat) (b : Buffer),
     (s.engines.get p).state = .moving → (s.engines.get p).withdrawn = false → (s.engines.get p).current = some i →
     bufferAt s i = some b → (s.sequencer.state = .idle → readyRequests s = []) →
     (∀ moved data, b.state = .draining moved data → moved + 16 < 256 →
       ∃ t, exec (.burstEnd p words) s = .next t ∧ WorkOnly s t ∧ t.requests = s.requests ∧
         bufferAt t i = some { b with state := .draining (moved + 16) data } ∧
         (t.engines.get p).state = .requesting ∧ (t.engines.get p).current = some i ∧
         (t.engines.get p).timer = some s.settings.hostBusTimeout) ∧
     (∀ data, b.state = .loading data → data.length + 16 < 256 →
       ∃ t, exec (.burstEnd p words) s = .next t ∧ WorkOnly s t ∧ t.requests = s.requests ∧
         bufferAt t i = some { b with state := .loading (data ++ words.toList) } ∧
         (t.engines.get p).state = .requesting ∧ (t.engines.get p).current = some i ∧
         (t.engines.get p).timer = some s.settings.hostBusTimeout) ∧
     (∀ data, b.state = .loading data → data.length = 240 →
       ∃ t, exec (.burstEnd p words) s = .next t ∧ WorkOnly s t ∧ t.requests = s.requests ∧
         bufferAt t i = some { b with state := .loaded (data ++ words.toList) } ∧ (OneServed s → HasChosen t p)) ∧
     (∀ data r a, b.state = .draining 240 data → findRequest s b.entry = some r → r.operation = .read a →
       (∀ stop, r.state = .active stop →
         ∃ t, exec (.burstEnd p words) s = .next t ∧ WorkOnly s t ∧
           t.requests = (s.requests.map fun q =>
             if q.index = b.entry then { q with blocksDone := q.blocksDone + 1 } else q) ∧
           FreeOrClaimed t i ∧ (OneServed s → HasChosen t p)) ∧
       (∀ status failing, r.state = .draining status failing →
         ∃ t, exec (.burstEnd p words) s = .next t ∧ WorkOnly s t ∧
           (r.blocksDone + 1 < r.mediumCount →
             t.requests = s.requests.map fun q =>
               if q.index = b.entry then { q with blocksDone := q.blocksDone + 1 } else q) ∧
           (r.blocksDone + 1 = r.mediumCount →
             HeldWith t { r with blocksDone := r.blocksDone + 1 } status failing 0) ∧
           FreeOrClaimed t i ∧ (OneServed s → HasChosen t p)))) ∧
  ∀ (p : Port) (words : Vector Word 16) (s : State),
    (s.engines.get p).state = .moving → (s.engines.get p).withdrawn = true →
    (s.sequencer.state = .idle → readyRequests s = []) →
    ∃ t, exec (.burstEnd p words) s = .next t ∧ WorkOnly s t ∧ t.requests = s.requests ∧
      t.pendingRecords = s.pendingRecords ∧ (t.engines.get p).withdrawn = false ∧
      (∀ j x, bufferAt s j = some x → bufferAt t j = some x ∨ bufferAt t j = some x.taken) ∧
      (∀ j, bufferAt s j = none → FreeOrClaimed t j) ∧ (OneServed s → HasChosen t p)

/-- The host-bus timeout: the engine gives up the request whose buffer it was moving, and frees its buffers but one serving the block
in progress; a DRAINING READ is HELD with HOST BUS TIMEOUT; an ACTIVE request has a stop asked with that reason, taken at once in
SETTLING and SEARCHING, so that it is HELD, and waiting in SEEKING and TRANSFERRING; a request HELD keeps no buffer, and the engine
forgets it. The engine then chooses its next work, the given-up request passed over (R67, R70, R71, R116, R126, R133, R137). -/
def Obligations.HostBusTimeoutGivesUp : Prop :=
  ∀ (p : Port) (s : State) (i limit : Nat) (b : Buffer) (r : Request),
    (s.engines.get p).state = .requesting → (s.engines.get p).timer = some limit →
    (s.engines.get p).current = some i → bufferAt s i = some b → findRequest s b.entry = some r →
    (∀ status failing, r.state = .draining status failing →
      ∃ t, exec (.hostBusTimeout p) s = .next t ∧ WorkOnly s t ∧ HeldWith t r .hostBusTimeout none 0 ∧
        (t.engines.get p).givenUp = none ∧
        (OneServed s → (∀ x, some x ∈ t.buffers → x.entry ≠ b.entry) ∧ HasChosen t p)) ∧
    (∀ v, EntriesDistinct s → r.state = .active none → s.sequencer.service = some v → v.entry = b.entry →
      (s.sequencer.state = .settling ∨ s.sequencer.state = .searching) →
      ∃ t, exec (.hostBusTimeout p) s = .next t ∧ WorkOnly s t ∧ HeldWith t r .hostBusTimeout none v.retriesSpent ∧
        (t.engines.get p).givenUp = none ∧
        (OneServed s → (∀ x, some x ∈ t.buffers → x.entry ≠ b.entry) ∧ HasChosen t p)) ∧
    (∀ v, r.state = .active none → s.sequencer.service = some v →
      (s.sequencer.state = .seeking ∨ s.sequencer.state = .transferring) →
      ∃ t, exec (.hostBusTimeout p) s = .next t ∧ WorkOnly s t ∧
        t.requests = s.requests.map (fun q =>
          if q.index = b.entry then { q with state := .active (some .hostBusTimeout) } else q) ∧
        t.sequencer = { s.sequencer with service := some { v with stopAsked := true } } ∧
        (t.engines.get p).givenUp = some b.entry ∧
        (∀ f, (t.engines.get p).prefetch = some f → f.entry ≠ b.entry) ∧
        (∀ j x, bufferAt s j = some x → x.entry = b.entry →
          if x.servesMedium then bufferAt t j = some x else FreeOrClaimed t j) ∧
        (OneServed s → HasChosen t p))

/-! ### What every step keeps -/

/-- No two HELD locks conflict: locks of different ports overlap only where both are SHARED (R19). -/
def Obligations.LocksStayCompatible : Prop :=
  ∀ s t : State, LocksCompatible s → step s = .next t → LocksCompatible t

/-- The pool keeps its six buffers, and no request holds more than three of them (R123, R125). -/
def Obligations.BuffersStayShared : Prop :=
  ∀ s t : State, BuffersShared s → step s = .next t → BuffersShared t

/-- One request at a time is ACTIVE or ORPHANED, it is the one the sequencer serves, and a stop is asked of it exactly when the Request
Table says so (R55, R57, R71, R93). -/
def Obligations.OneRequestIsServed : Prop :=
  ∀ s t : State, OneServed s → step s = .next t → OneServed t

/-- The part conserves work: in IDLE no request stands READY, and the believed cylinder is known in IDLE and while a request is served
(R82, R83). -/
def Obligations.IdleLeavesNoReadyRequest : Prop :=
  ∀ s t : State, WorkConserving s → step s = .next t → WorkConserving t

/-- No waiter is left grantable while a Lock Table entry is FREE (R44, R45). -/
def Obligations.GrantableWaitersAreGranted : Prop :=
  ∀ s t : State, NoneLeftGrantable s → step s = .next t → NoneLeftGrantable t

/-- The queues stay within their capacities, the settings within their ranges, the Lock Table in its shape, and the position and head within
the track (R10, R12, R15, R144, R159, R164, R168). -/
def Obligations.RangesAreKept : Prop :=
  ∀ s t : State, step s = .next t →
    (QueuesBounded s → QueuesBounded t) ∧ (SettingsInRange s → SettingsInRange t) ∧
      (LockTableShaped s → LockTableShaped t) ∧ (RotationSound s → RotationSound t)
end

