-- ==== Sys2Proof/Laws/State.lean ====
section
/-! SUPPORT. The small lemmas of the state record: for each named update, what each field reads after it; and
for a map over the ports, what each port reads after an update. All hold by `rfl`. -/

namespace Sys2Proof.Machine

@[simp] theorem State.withPending_fields (s : State) (v : List Instr) :
    (s.withPending v).pending = v ∧
    (s.withPending v).windows = s.windows ∧
    (s.withPending v).windowBase = s.windowBase ∧
    (s.withPending v).initLine = s.initLine ∧
    (s.withPending v).enables = s.enables ∧
    (s.withPending v).completions = s.completions ∧
    (s.withPending v).pendingRecords = s.pendingRecords ∧
    (s.withPending v).notices = s.notices ∧
    (s.withPending v).watches = s.watches ∧
    (s.withPending v).engines = s.engines ∧
    (s.withPending v).buffers = s.buffers ∧
    (s.withPending v).requests = s.requests ∧
    (s.withPending v).locks = s.locks ∧
    (s.withPending v).waiters = s.waiters ∧
    (s.withPending v).sequencer = s.sequencer ∧
    (s.withPending v).drive = s.drive ∧
    (s.withPending v).sweep = s.sweep ∧
    (s.withPending v).writeReports = s.writeReports ∧
    (s.withPending v).settings = s.settings ∧
    (s.withPending v).token = s.token := by
  refine ⟨rfl, rfl, rfl, rfl, rfl, rfl, rfl, rfl, rfl, rfl, rfl, rfl, rfl, rfl, rfl, rfl, rfl, rfl, rfl, rfl⟩

@[simp] theorem State.withWindows_fields (s : State) (v : PortMap Window) :
    (s.withWindows v).pending = s.pending ∧
    (s.withWindows v).windows = v ∧
    (s.withWindows v).windowBase = s.windowBase ∧
    (s.withWindows v).initLine = s.initLine ∧
    (s.withWindows v).enables = s.enables ∧
    (s.withWindows v).completions = s.completions ∧
    (s.withWindows v).pendingRecords = s.pendingRecords ∧
    (s.withWindows v).notices = s.notices ∧
    (s.withWindows v).watches = s.watches ∧
    (s.withWindows v).engines = s.engines ∧
    (s.withWindows v).buffers = s.buffers ∧
    (s.withWindows v).requests = s.requests ∧
    (s.withWindows v).locks = s.locks ∧
    (s.withWindows v).waiters = s.waiters ∧
    (s.withWindows v).sequencer = s.sequencer ∧
    (s.withWindows v).drive = s.drive ∧
    (s.withWindows v).sweep = s.sweep ∧
    (s.withWindows v).writeReports = s.writeReports ∧
    (s.withWindows v).settings = s.settings ∧
    (s.withWindows v).token = s.token := by
  refine ⟨rfl, rfl, rfl, rfl, rfl, rfl, rfl, rfl, rfl, rfl, rfl, rfl, rfl, rfl, rfl, rfl, rfl, rfl, rfl, rfl⟩

@[simp] theorem State.withWindowBase_fields (s : State) (v : PortMap (BitVec 8)) :
    (s.withWindowBase v).pending = s.pending ∧
    (s.withWindowBase v).windows = s.windows ∧
    (s.withWindowBase v).windowBase = v ∧
    (s.withWindowBase v).initLine = s.initLine ∧
    (s.withWindowBase v).enables = s.enables ∧
    (s.withWindowBase v).completions = s.completions ∧
    (s.withWindowBase v).pendingRecords = s.pendingRecords ∧
    (s.withWindowBase v).notices = s.notices ∧
    (s.withWindowBase v).watches = s.watches ∧
    (s.withWindowBase v).engines = s.engines ∧
    (s.withWindowBase v).buffers = s.buffers ∧
    (s.withWindowBase v).requests = s.requests ∧
    (s.withWindowBase v).locks = s.locks ∧
    (s.withWindowBase v).waiters = s.waiters ∧
    (s.withWindowBase v).sequencer = s.sequencer ∧
    (s.withWindowBase v).drive = s.drive ∧
    (s.withWindowBase v).sweep = s.sweep ∧
    (s.withWindowBase v).writeReports = s.writeReports ∧
    (s.withWindowBase v).settings = s.settings ∧
    (s.withWindowBase v).token = s.token := by
  refine ⟨rfl, rfl, rfl, rfl, rfl, rfl, rfl, rfl, rfl, rfl, rfl, rfl, rfl, rfl, rfl, rfl, rfl, rfl, rfl, rfl⟩

@[simp] theorem State.withInitLine_fields (s : State) (v : PortMap Bool) :
    (s.withInitLine v).pending = s.pending ∧
    (s.withInitLine v).windows = s.windows ∧
    (s.withInitLine v).windowBase = s.windowBase ∧
    (s.withInitLine v).initLine = v ∧
    (s.withInitLine v).enables = s.enables ∧
    (s.withInitLine v).completions = s.completions ∧
    (s.withInitLine v).pendingRecords = s.pendingRecords ∧
    (s.withInitLine v).notices = s.notices ∧
    (s.withInitLine v).watches = s.watches ∧
    (s.withInitLine v).engines = s.engines ∧
    (s.withInitLine v).buffers = s.buffers ∧
    (s.withInitLine v).requests = s.requests ∧
    (s.withInitLine v).locks = s.locks ∧
    (s.withInitLine v).waiters = s.waiters ∧
    (s.withInitLine v).sequencer = s.sequencer ∧
    (s.withInitLine v).drive = s.drive ∧
    (s.withInitLine v).sweep = s.sweep ∧
    (s.withInitLine v).writeReports = s.writeReports ∧
    (s.withInitLine v).settings = s.settings ∧
    (s.withInitLine v).token = s.token := by
  refine ⟨rfl, rfl, rfl, rfl, rfl, rfl, rfl, rfl, rfl, rfl, rfl, rfl, rfl, rfl, rfl, rfl, rfl, rfl, rfl, rfl⟩

@[simp] theorem State.withEnables_fields (s : State) (v : PortMap Enables) :
    (s.withEnables v).pending = s.pending ∧
    (s.withEnables v).windows = s.windows ∧
    (s.withEnables v).windowBase = s.windowBase ∧
    (s.withEnables v).initLine = s.initLine ∧
    (s.withEnables v).enables = v ∧
    (s.withEnables v).completions = s.completions ∧
    (s.withEnables v).pendingRecords = s.pendingRecords ∧
    (s.withEnables v).notices = s.notices ∧
    (s.withEnables v).watches = s.watches ∧
    (s.withEnables v).engines = s.engines ∧
    (s.withEnables v).buffers = s.buffers ∧
    (s.withEnables v).requests = s.requests ∧
    (s.withEnables v).locks = s.locks ∧
    (s.withEnables v).waiters = s.waiters ∧
    (s.withEnables v).sequencer = s.sequencer ∧
    (s.withEnables v).drive = s.drive ∧
    (s.withEnables v).sweep = s.sweep ∧
    (s.withEnables v).writeReports = s.writeReports ∧
    (s.withEnables v).settings = s.settings ∧
    (s.withEnables v).token = s.token := by
  refine ⟨rfl, rfl, rfl, rfl, rfl, rfl, rfl, rfl, rfl, rfl, rfl, rfl, rfl, rfl, rfl, rfl, rfl, rfl, rfl, rfl⟩

@[simp] theorem State.withCompletions_fields (s : State) (v : PortMap (List Record)) :
    (s.withCompletions v).pending = s.pending ∧
    (s.withCompletions v).windows = s.windows ∧
    (s.withCompletions v).windowBase = s.windowBase ∧
    (s.withCompletions v).initLine = s.initLine ∧
    (s.withCompletions v).enables = s.enables ∧
    (s.withCompletions v).completions = v ∧
    (s.withCompletions v).pendingRecords = s.pendingRecords ∧
    (s.withCompletions v).notices = s.notices ∧
    (s.withCompletions v).watches = s.watches ∧
    (s.withCompletions v).engines = s.engines ∧
    (s.withCompletions v).buffers = s.buffers ∧
    (s.withCompletions v).requests = s.requests ∧
    (s.withCompletions v).locks = s.locks ∧
    (s.withCompletions v).waiters = s.waiters ∧
    (s.withCompletions v).sequencer = s.sequencer ∧
    (s.withCompletions v).drive = s.drive ∧
    (s.withCompletions v).sweep = s.sweep ∧
    (s.withCompletions v).writeReports = s.writeReports ∧
    (s.withCompletions v).settings = s.settings ∧
    (s.withCompletions v).token = s.token := by
  refine ⟨rfl, rfl, rfl, rfl, rfl, rfl, rfl, rfl, rfl, rfl, rfl, rfl, rfl, rfl, rfl, rfl, rfl, rfl, rfl, rfl⟩

@[simp] theorem State.withPendingRecords_fields (s : State) (v : PortMap (List OwnerRef)) :
    (s.withPendingRecords v).pending = s.pending ∧
    (s.withPendingRecords v).windows = s.windows ∧
    (s.withPendingRecords v).windowBase = s.windowBase ∧
    (s.withPendingRecords v).initLine = s.initLine ∧
    (s.withPendingRecords v).enables = s.enables ∧
    (s.withPendingRecords v).completions = s.completions ∧
    (s.withPendingRecords v).pendingRecords = v ∧
    (s.withPendingRecords v).notices = s.notices ∧
    (s.withPendingRecords v).watches = s.watches ∧
    (s.withPendingRecords v).engines = s.engines ∧
    (s.withPendingRecords v).buffers = s.buffers ∧
    (s.withPendingRecords v).requests = s.requests ∧
    (s.withPendingRecords v).locks = s.locks ∧
    (s.withPendingRecords v).waiters = s.waiters ∧
    (s.withPendingRecords v).sequencer = s.sequencer ∧
    (s.withPendingRecords v).drive = s.drive ∧
    (s.withPendingRecords v).sweep = s.sweep ∧
    (s.withPendingRecords v).writeReports = s.writeReports ∧
    (s.withPendingRecords v).settings = s.settings ∧
    (s.withPendingRecords v).token = s.token := by
  refine ⟨rfl, rfl, rfl, rfl, rfl, rfl, rfl, rfl, rfl, rfl, rfl, rfl, rfl, rfl, rfl, rfl, rfl, rfl, rfl, rfl⟩

@[simp] theorem State.withNotices_fields (s : State) (v : PortMap NoticeQueue) :
    (s.withNotices v).pending = s.pending ∧
    (s.withNotices v).windows = s.windows ∧
    (s.withNotices v).windowBase = s.windowBase ∧
    (s.withNotices v).initLine = s.initLine ∧
    (s.withNotices v).enables = s.enables ∧
    (s.withNotices v).completions = s.completions ∧
    (s.withNotices v).pendingRecords = s.pendingRecords ∧
    (s.withNotices v).notices = v ∧
    (s.withNotices v).watches = s.watches ∧
    (s.withNotices v).engines = s.engines ∧
    (s.withNotices v).buffers = s.buffers ∧
    (s.withNotices v).requests = s.requests ∧
    (s.withNotices v).locks = s.locks ∧
    (s.withNotices v).waiters = s.waiters ∧
    (s.withNotices v).sequencer = s.sequencer ∧
    (s.withNotices v).drive = s.drive ∧
    (s.withNotices v).sweep = s.sweep ∧
    (s.withNotices v).writeReports = s.writeReports ∧
    (s.withNotices v).settings = s.settings ∧
    (s.withNotices v).token = s.token := by
  refine ⟨rfl, rfl, rfl, rfl, rfl, rfl, rfl, rfl, rfl, rfl, rfl, rfl, rfl, rfl, rfl, rfl, rfl, rfl, rfl, rfl⟩

@[simp] theorem State.withWatches_fields (s : State) (v : PortMap (List (Option Extent))) :
    (s.withWatches v).pending = s.pending ∧
    (s.withWatches v).windows = s.windows ∧
    (s.withWatches v).windowBase = s.windowBase ∧
    (s.withWatches v).initLine = s.initLine ∧
    (s.withWatches v).enables = s.enables ∧
    (s.withWatches v).completions = s.completions ∧
    (s.withWatches v).pendingRecords = s.pendingRecords ∧
    (s.withWatches v).notices = s.notices ∧
    (s.withWatches v).watches = v ∧
    (s.withWatches v).engines = s.engines ∧
    (s.withWatches v).buffers = s.buffers ∧
    (s.withWatches v).requests = s.requests ∧
    (s.withWatches v).locks = s.locks ∧
    (s.withWatches v).waiters = s.waiters ∧
    (s.withWatches v).sequencer = s.sequencer ∧
    (s.withWatches v).drive = s.drive ∧
    (s.withWatches v).sweep = s.sweep ∧
    (s.withWatches v).writeReports = s.writeReports ∧
    (s.withWatches v).settings = s.settings ∧
    (s.withWatches v).token = s.token := by
  refine ⟨rfl, rfl, rfl, rfl, rfl, rfl, rfl, rfl, rfl, rfl, rfl, rfl, rfl, rfl, rfl, rfl, rfl, rfl, rfl, rfl⟩

@[simp] theorem State.withEngines_fields (s : State) (v : PortMap Engine) :
    (s.withEngines v).pending = s.pending ∧
    (s.withEngines v).windows = s.windows ∧
    (s.withEngines v).windowBase = s.windowBase ∧
    (s.withEngines v).initLine = s.initLine ∧
    (s.withEngines v).enables = s.enables ∧
    (s.withEngines v).completions = s.completions ∧
    (s.withEngines v).pendingRecords = s.pendingRecords ∧
    (s.withEngines v).notices = s.notices ∧
    (s.withEngines v).watches = s.watches ∧
    (s.withEngines v).engines = v ∧
    (s.withEngines v).buffers = s.buffers ∧
    (s.withEngines v).requests = s.requests ∧
    (s.withEngines v).locks = s.locks ∧
    (s.withEngines v).waiters = s.waiters ∧
    (s.withEngines v).sequencer = s.sequencer ∧
    (s.withEngines v).drive = s.drive ∧
    (s.withEngines v).sweep = s.sweep ∧
    (s.withEngines v).writeReports = s.writeReports ∧
    (s.withEngines v).settings = s.settings ∧
    (s.withEngines v).token = s.token := by
  refine ⟨rfl, rfl, rfl, rfl, rfl, rfl, rfl, rfl, rfl, rfl, rfl, rfl, rfl, rfl, rfl, rfl, rfl, rfl, rfl, rfl⟩

@[simp] theorem State.withBuffers_fields (s : State) (v : List (Option Buffer)) :
    (s.withBuffers v).pending = s.pending ∧
    (s.withBuffers v).windows = s.windows ∧
    (s.withBuffers v).windowBase = s.windowBase ∧
    (s.withBuffers v).initLine = s.initLine ∧
    (s.withBuffers v).enables = s.enables ∧
    (s.withBuffers v).completions = s.completions ∧
    (s.withBuffers v).pendingRecords = s.pendingRecords ∧
    (s.withBuffers v).notices = s.notices ∧
    (s.withBuffers v).watches = s.watches ∧
    (s.withBuffers v).engines = s.engines ∧
    (s.withBuffers v).buffers = v ∧
    (s.withBuffers v).requests = s.requests ∧
    (s.withBuffers v).locks = s.locks ∧
    (s.withBuffers v).waiters = s.waiters ∧
    (s.withBuffers v).sequencer = s.sequencer ∧
    (s.withBuffers v).drive = s.drive ∧
    (s.withBuffers v).sweep = s.sweep ∧
    (s.withBuffers v).writeReports = s.writeReports ∧
    (s.withBuffers v).settings = s.settings ∧
    (s.withBuffers v).token = s.token := by
  refine ⟨rfl, rfl, rfl, rfl, rfl, rfl, rfl, rfl, rfl, rfl, rfl, rfl, rfl, rfl, rfl, rfl, rfl, rfl, rfl, rfl⟩

@[simp] theorem State.withRequests_fields (s : State) (v : List Request) :
    (s.withRequests v).pending = s.pending ∧
    (s.withRequests v).windows = s.windows ∧
    (s.withRequests v).windowBase = s.windowBase ∧
    (s.withRequests v).initLine = s.initLine ∧
    (s.withRequests v).enables = s.enables ∧
    (s.withRequests v).completions = s.completions ∧
    (s.withRequests v).pendingRecords = s.pendingRecords ∧
    (s.withRequests v).notices = s.notices ∧
    (s.withRequests v).watches = s.watches ∧
    (s.withRequests v).engines = s.engines ∧
    (s.withRequests v).buffers = s.buffers ∧
    (s.withRequests v).requests = v ∧
    (s.withRequests v).locks = s.locks ∧
    (s.withRequests v).waiters = s.waiters ∧
    (s.withRequests v).sequencer = s.sequencer ∧
    (s.withRequests v).drive = s.drive ∧
    (s.withRequests v).sweep = s.sweep ∧
    (s.withRequests v).writeReports = s.writeReports ∧
    (s.withRequests v).settings = s.settings ∧
    (s.withRequests v).token = s.token := by
  refine ⟨rfl, rfl, rfl, rfl, rfl, rfl, rfl, rfl, rfl, rfl, rfl, rfl, rfl, rfl, rfl, rfl, rfl, rfl, rfl, rfl⟩

@[simp] theorem State.withLocks_fields (s : State) (v : List LockEntry) :
    (s.withLocks v).pending = s.pending ∧
    (s.withLocks v).windows = s.windows ∧
    (s.withLocks v).windowBase = s.windowBase ∧
    (s.withLocks v).initLine = s.initLine ∧
    (s.withLocks v).enables = s.enables ∧
    (s.withLocks v).completions = s.completions ∧
    (s.withLocks v).pendingRecords = s.pendingRecords ∧
    (s.withLocks v).notices = s.notices ∧
    (s.withLocks v).watches = s.watches ∧
    (s.withLocks v).engines = s.engines ∧
    (s.withLocks v).buffers = s.buffers ∧
    (s.withLocks v).requests = s.requests ∧
    (s.withLocks v).locks = v ∧
    (s.withLocks v).waiters = s.waiters ∧
    (s.withLocks v).sequencer = s.sequencer ∧
    (s.withLocks v).drive = s.drive ∧
    (s.withLocks v).sweep = s.sweep ∧
    (s.withLocks v).writeReports = s.writeReports ∧
    (s.withLocks v).settings = s.settings ∧
    (s.withLocks v).token = s.token := by
  refine ⟨rfl, rfl, rfl, rfl, rfl, rfl, rfl, rfl, rfl, rfl, rfl, rfl, rfl, rfl, rfl, rfl, rfl, rfl, rfl, rfl⟩

@[simp] theorem State.withWaiters_fields (s : State) (v : List Waiter) :
    (s.withWaiters v).pending = s.pending ∧
    (s.withWaiters v).windows = s.windows ∧
    (s.withWaiters v).windowBase = s.windowBase ∧
    (s.withWaiters v).initLine = s.initLine ∧
    (s.withWaiters v).enables = s.enables ∧
    (s.withWaiters v).completions = s.completions ∧
    (s.withWaiters v).pendingRecords = s.pendingRecords ∧
    (s.withWaiters v).notices = s.notices ∧
    (s.withWaiters v).watches = s.watches ∧
    (s.withWaiters v).engines = s.engines ∧
    (s.withWaiters v).buffers = s.buffers ∧
    (s.withWaiters v).requests = s.requests ∧
    (s.withWaiters v).locks = s.locks ∧
    (s.withWaiters v).waiters = v ∧
    (s.withWaiters v).sequencer = s.sequencer ∧
    (s.withWaiters v).drive = s.drive ∧
    (s.withWaiters v).sweep = s.sweep ∧
    (s.withWaiters v).writeReports = s.writeReports ∧
    (s.withWaiters v).settings = s.settings ∧
    (s.withWaiters v).token = s.token := by
  refine ⟨rfl, rfl, rfl, rfl, rfl, rfl, rfl, rfl, rfl, rfl, rfl, rfl, rfl, rfl, rfl, rfl, rfl, rfl, rfl, rfl⟩

@[simp] theorem State.withSequencer_fields (s : State) (v : Sequencer) :
    (s.withSequencer v).pending = s.pending ∧
    (s.withSequencer v).windows = s.windows ∧
    (s.withSequencer v).windowBase = s.windowBase ∧
    (s.withSequencer v).initLine = s.initLine ∧
    (s.withSequencer v).enables = s.enables ∧
    (s.withSequencer v).completions = s.completions ∧
    (s.withSequencer v).pendingRecords = s.pendingRecords ∧
    (s.withSequencer v).notices = s.notices ∧
    (s.withSequencer v).watches = s.watches ∧
    (s.withSequencer v).engines = s.engines ∧
    (s.withSequencer v).buffers = s.buffers ∧
    (s.withSequencer v).requests = s.requests ∧
    (s.withSequencer v).locks = s.locks ∧
    (s.withSequencer v).waiters = s.waiters ∧
    (s.withSequencer v).sequencer = v ∧
    (s.withSequencer v).drive = s.drive ∧
    (s.withSequencer v).sweep = s.sweep ∧
    (s.withSequencer v).writeReports = s.writeReports ∧
    (s.withSequencer v).settings = s.settings ∧
    (s.withSequencer v).token = s.token := by
  refine ⟨rfl, rfl, rfl, rfl, rfl, rfl, rfl, rfl, rfl, rfl, rfl, rfl, rfl, rfl, rfl, rfl, rfl, rfl, rfl, rfl⟩

@[simp] theorem State.withDrive_fields (s : State) (v : DriveLines) :
    (s.withDrive v).pending = s.pending ∧
    (s.withDrive v).windows = s.windows ∧
    (s.withDrive v).windowBase = s.windowBase ∧
    (s.withDrive v).initLine = s.initLine ∧
    (s.withDrive v).enables = s.enables ∧
    (s.withDrive v).completions = s.completions ∧
    (s.withDrive v).pendingRecords = s.pendingRecords ∧
    (s.withDrive v).notices = s.notices ∧
    (s.withDrive v).watches = s.watches ∧
    (s.withDrive v).engines = s.engines ∧
    (s.withDrive v).buffers = s.buffers ∧
    (s.withDrive v).requests = s.requests ∧
    (s.withDrive v).locks = s.locks ∧
    (s.withDrive v).waiters = s.waiters ∧
    (s.withDrive v).sequencer = s.sequencer ∧
    (s.withDrive v).drive = v ∧
    (s.withDrive v).sweep = s.sweep ∧
    (s.withDrive v).writeReports = s.writeReports ∧
    (s.withDrive v).settings = s.settings ∧
    (s.withDrive v).token = s.token := by
  refine ⟨rfl, rfl, rfl, rfl, rfl, rfl, rfl, rfl, rfl, rfl, rfl, rfl, rfl, rfl, rfl, rfl, rfl, rfl, rfl, rfl⟩

@[simp] theorem State.withSweep_fields (s : State) (v : Sweep) :
    (s.withSweep v).pending = s.pending ∧
    (s.withSweep v).windows = s.windows ∧
    (s.withSweep v).windowBase = s.windowBase ∧
    (s.withSweep v).initLine = s.initLine ∧
    (s.withSweep v).enables = s.enables ∧
    (s.withSweep v).completions = s.completions ∧
    (s.withSweep v).pendingRecords = s.pendingRecords ∧
    (s.withSweep v).notices = s.notices ∧
    (s.withSweep v).watches = s.watches ∧
    (s.withSweep v).engines = s.engines ∧
    (s.withSweep v).buffers = s.buffers ∧
    (s.withSweep v).requests = s.requests ∧
    (s.withSweep v).locks = s.locks ∧
    (s.withSweep v).waiters = s.waiters ∧
    (s.withSweep v).sequencer = s.sequencer ∧
    (s.withSweep v).drive = s.drive ∧
    (s.withSweep v).sweep = v ∧
    (s.withSweep v).writeReports = s.writeReports ∧
    (s.withSweep v).settings = s.settings ∧
    (s.withSweep v).token = s.token := by
  refine ⟨rfl, rfl, rfl, rfl, rfl, rfl, rfl, rfl, rfl, rfl, rfl, rfl, rfl, rfl, rfl, rfl, rfl, rfl, rfl, rfl⟩

@[simp] theorem State.withWriteReports_fields (s : State) (v : List WriteReport) :
    (s.withWriteReports v).pending = s.pending ∧
    (s.withWriteReports v).windows = s.windows ∧
    (s.withWriteReports v).windowBase = s.windowBase ∧
    (s.withWriteReports v).initLine = s.initLine ∧
    (s.withWriteReports v).enables = s.enables ∧
    (s.withWriteReports v).completions = s.completions ∧
    (s.withWriteReports v).pendingRecords = s.pendingRecords ∧
    (s.withWriteReports v).notices = s.notices ∧
    (s.withWriteReports v).watches = s.watches ∧
    (s.withWriteReports v).engines = s.engines ∧
    (s.withWriteReports v).buffers = s.buffers ∧
    (s.withWriteReports v).requests = s.requests ∧
    (s.withWriteReports v).locks = s.locks ∧
    (s.withWriteReports v).waiters = s.waiters ∧
    (s.withWriteReports v).sequencer = s.sequencer ∧
    (s.withWriteReports v).drive = s.drive ∧
    (s.withWriteReports v).sweep = s.sweep ∧
    (s.withWriteReports v).writeReports = v ∧
    (s.withWriteReports v).settings = s.settings ∧
    (s.withWriteReports v).token = s.token := by
  refine ⟨rfl, rfl, rfl, rfl, rfl, rfl, rfl, rfl, rfl, rfl, rfl, rfl, rfl, rfl, rfl, rfl, rfl, rfl, rfl, rfl⟩

@[simp] theorem State.withSettings_fields (s : State) (v : Settings) :
    (s.withSettings v).pending = s.pending ∧
    (s.withSettings v).windows = s.windows ∧
    (s.withSettings v).windowBase = s.windowBase ∧
    (s.withSettings v).initLine = s.initLine ∧
    (s.withSettings v).enables = s.enables ∧
    (s.withSettings v).completions = s.completions ∧
    (s.withSettings v).pendingRecords = s.pendingRecords ∧
    (s.withSettings v).notices = s.notices ∧
    (s.withSettings v).watches = s.watches ∧
    (s.withSettings v).engines = s.engines ∧
    (s.withSettings v).buffers = s.buffers ∧
    (s.withSettings v).requests = s.requests ∧
    (s.withSettings v).locks = s.locks ∧
    (s.withSettings v).waiters = s.waiters ∧
    (s.withSettings v).sequencer = s.sequencer ∧
    (s.withSettings v).drive = s.drive ∧
    (s.withSettings v).sweep = s.sweep ∧
    (s.withSettings v).writeReports = s.writeReports ∧
    (s.withSettings v).settings = v ∧
    (s.withSettings v).token = s.token := by
  refine ⟨rfl, rfl, rfl, rfl, rfl, rfl, rfl, rfl, rfl, rfl, rfl, rfl, rfl, rfl, rfl, rfl, rfl, rfl, rfl, rfl⟩

@[simp] theorem State.withToken_fields (s : State) (v : Option Port) :
    (s.withToken v).pending = s.pending ∧
    (s.withToken v).windows = s.windows ∧
    (s.withToken v).windowBase = s.windowBase ∧
    (s.withToken v).initLine = s.initLine ∧
    (s.withToken v).enables = s.enables ∧
    (s.withToken v).completions = s.completions ∧
    (s.withToken v).pendingRecords = s.pendingRecords ∧
    (s.withToken v).notices = s.notices ∧
    (s.withToken v).watches = s.watches ∧
    (s.withToken v).engines = s.engines ∧
    (s.withToken v).buffers = s.buffers ∧
    (s.withToken v).requests = s.requests ∧
    (s.withToken v).locks = s.locks ∧
    (s.withToken v).waiters = s.waiters ∧
    (s.withToken v).sequencer = s.sequencer ∧
    (s.withToken v).drive = s.drive ∧
    (s.withToken v).sweep = s.sweep ∧
    (s.withToken v).writeReports = s.writeReports ∧
    (s.withToken v).settings = s.settings ∧
    (s.withToken v).token = v := by
  refine ⟨rfl, rfl, rfl, rfl, rfl, rfl, rfl, rfl, rfl, rfl, rfl, rfl, rfl, rfl, rfl, rfl, rfl, rfl, rfl, rfl⟩

@[simp] theorem PortMap.get_set_same {α : Type} (m : PortMap α) (p : Port) (v : α) : (m.set p v).get p = v := by
  cases p <;> rfl

@[simp] theorem PortMap.get_set_ne {α : Type} (m : PortMap α) (p q : Port) (v : α) (h : q ≠ p) :
    (m.set p v).get q = m.get q := by
  cases p <;> cases q <;> first | rfl | exact absurd rfl h

theorem PortMap.get_set {α : Type} (m : PortMap α) (p q : Port) (v : α) :
    (m.set p v).get q = if q = p then v else m.get q := by
  cases p <;> cases q <;> rfl

@[simp] theorem PortMap.get_all {α : Type} (v : α) (p : Port) : (PortMap.all v).get p = v := by
  cases p <;> rfl

@[simp] theorem PortMap.get_map {α β : Type} (f : α → β) (m : PortMap α) (p : Port) :
    (m.map f).get p = f (m.get p) := by
  cases p <;> rfl

theorem PortMap.ext_get {α : Type} {m n : PortMap α} (h : ∀ p, m.get p = n.get p) : m = n := by
  have ha := h .a; have hb := h .b; have hc := h .c; have hd := h .d
  cases m; cases n; simp only [PortMap.get] at ha hb hc hd; simp [ha, hb, hc, hd]

end Sys2Proof.Machine
end

