-- ==== Sys2Proof/Laws/Frames.lean ====
section
/-! SUPPORT. What each shared operation leaves unchanged: every operation on the work in progress is `WorkOnly`, said once for
each, so that a proof cites it and does not unfold the operation. -/

namespace Sys2Proof.Machine

open Sys2Proof.Safety

theorem workOnly_refl (s : State) : WorkOnly s s :=
  ⟨rfl, rfl, rfl, rfl, rfl, rfl, rfl, rfl, rfl, rfl, rfl, rfl⟩

theorem workOnly_trans {s t u : State} (h : WorkOnly s t) (k : WorkOnly t u) : WorkOnly s u :=
  ⟨k.pending.trans h.pending, k.windows.trans h.windows, k.windowBase.trans h.windowBase, k.initLine.trans h.initLine,
    k.enables.trans h.enables, k.completions.trans h.completions, k.notices.trans h.notices, k.watches.trans h.watches,
    k.locks.trans h.locks, k.waiters.trans h.waiters, k.settings.trans h.settings, k.token.trans h.token⟩

/-! ### The fields the work in progress may change -/

theorem withRequests_workOnly (s : State) (v : List Request) : WorkOnly s (s.withRequests v) :=
  ⟨rfl, rfl, rfl, rfl, rfl, rfl, rfl, rfl, rfl, rfl, rfl, rfl⟩

theorem withBuffers_workOnly (s : State) (v : List (Option Buffer)) : WorkOnly s (s.withBuffers v) :=
  ⟨rfl, rfl, rfl, rfl, rfl, rfl, rfl, rfl, rfl, rfl, rfl, rfl⟩

theorem withEngines_workOnly (s : State) (v : PortMap Engine) : WorkOnly s (s.withEngines v) :=
  ⟨rfl, rfl, rfl, rfl, rfl, rfl, rfl, rfl, rfl, rfl, rfl, rfl⟩

theorem withPendingRecords_workOnly (s : State) (v : PortMap (List OwnerRef)) : WorkOnly s (s.withPendingRecords v) :=
  ⟨rfl, rfl, rfl, rfl, rfl, rfl, rfl, rfl, rfl, rfl, rfl, rfl⟩

theorem withSequencer_workOnly (s : State) (v : Sequencer) : WorkOnly s (s.withSequencer v) :=
  ⟨rfl, rfl, rfl, rfl, rfl, rfl, rfl, rfl, rfl, rfl, rfl, rfl⟩

theorem withDrive_workOnly (s : State) (v : DriveLines) : WorkOnly s (s.withDrive v) :=
  ⟨rfl, rfl, rfl, rfl, rfl, rfl, rfl, rfl, rfl, rfl, rfl, rfl⟩

theorem withSweep_workOnly (s : State) (v : Sweep) : WorkOnly s (s.withSweep v) :=
  ⟨rfl, rfl, rfl, rfl, rfl, rfl, rfl, rfl, rfl, rfl, rfl, rfl⟩

theorem withWriteReports_workOnly (s : State) (v : List WriteReport) : WorkOnly s (s.withWriteReports v) :=
  ⟨rfl, rfl, rfl, rfl, rfl, rfl, rfl, rfl, rfl, rfl, rfl, rfl⟩

theorem foldl_workOnly {α : Type} (f : State → α → State) (h : ∀ s x, WorkOnly s (f s x)) (l : List α) (s : State) :
    WorkOnly s (l.foldl f s) := by
  induction l generalizing s with
  | nil => exact workOnly_refl s
  | cons x l ih => exact workOnly_trans (h s x) (ih (f s x))

/-! ### The Request Table and the buffers -/

theorem updateRequest_workOnly (i : Nat) (f : Request → Request) (s : State) : WorkOnly s (updateRequest i f s) :=
  withRequests_workOnly s _

theorem removeRequest_workOnly (i : Nat) (s : State) : WorkOnly s (removeRequest i s) := withRequests_workOnly s _

theorem leaveMedium_workOnly (i : Nat) (s : State) : WorkOnly s (leaveMedium i s) := withRequests_workOnly s _

theorem raiseRetries_workOnly (i n : Nat) (s : State) : WorkOnly s (raiseRetries i n s) := updateRequest_workOnly i _ s

theorem joinPending_workOnly (p : Port) (item : OwnerRef) (s : State) : WorkOnly s (joinPending p item s) :=
  withPendingRecords_workOnly s _

theorem setBuffer_workOnly (i : Nat) (b : Option Buffer) (s : State) : WorkOnly s (setBuffer i b s) :=
  withBuffers_workOnly s _

theorem freeBuffers_workOnly (test : Buffer → Bool) (s : State) : WorkOnly s (freeBuffers test s) :=
  workOnly_trans (withBuffers_workOnly s _) (withEngines_workOnly _ _)

theorem forgetEntry_workOnly (i : Nat) (s : State) : WorkOnly s (forgetEntry i s) := withEngines_workOnly s _

theorem enterHeld_workOnly (i : Nat) (status : Status) (failing : Option Nat) (s : State) :
    WorkOnly s (enterHeld i status failing s) := by
  unfold enterHeld
  split
  · exact workOnly_refl s
  · exact workOnly_trans (updateRequest_workOnly i _ s)
      (workOnly_trans (leaveMedium_workOnly i _)
        (workOnly_trans (freeBuffers_workOnly _ _)
          (workOnly_trans (forgetEntry_workOnly i _) (joinPending_workOnly _ _ _))))

theorem freeRequest_workOnly (i : Nat) (s : State) : WorkOnly s (freeRequest i s) :=
  workOnly_trans (removeRequest_workOnly i s)
    (workOnly_trans (leaveMedium_workOnly i _)
      (workOnly_trans (freeBuffers_workOnly _ _) (forgetEntry_workOnly i _)))

/-! ### The Medium Sequencer -/

theorem modifySequencer_workOnly (s : State) (f : Sequencer → Sequencer) : WorkOnly s (s.modifySequencer f) :=
  withSequencer_workOnly s _

theorem modifyService_workOnly (f : Service → Service) (s : State) : WorkOnly s (modifyService f s) :=
  modifySequencer_workOnly s _

theorem modifyDrive_workOnly (s : State) (f : DriveLines → DriveLines) : WorkOnly s (s.modifyDrive f) :=
  withDrive_workOnly s _

theorem senseWriteProtect_workOnly (level : Bool) (s : State) : WorkOnly s (senseWriteProtect level s) :=
  modifyDrive_workOnly s _

theorem assertWriteGate_workOnly (bytes : List Byte) (s : State) : WorkOnly s (assertWriteGate bytes s) :=
  modifyDrive_workOnly s _

theorem removeWriteGate_workOnly (s : State) : WorkOnly s (removeWriteGate s) := modifyDrive_workOnly s _

theorem makeWriteReport_workOnly (r : Request) (v : Service) (s : State) : WorkOnly s (makeWriteReport r v s) := by
  unfold makeWriteReport
  split
  · exact workOnly_refl s
  · split
    · exact workOnly_refl s
    · exact withWriteReports_workOnly s _

theorem endActive_workOnly (r : Request) (v : Service) (status : Status) (failing : Option Nat) (s : State) :
    WorkOnly s (endActive r v status failing s) := by
  unfold endActive
  split
  · split
    · exact workOnly_trans (updateRequest_workOnly _ _ s) (leaveMedium_workOnly _ _)
    · exact enterHeld_workOnly _ _ _ s
  · exact workOnly_trans (enterHeld_workOnly _ _ _ s) (makeWriteReport_workOnly r v _)

theorem applyEnd_workOnly (r : Request) (v : Service) (e : MediumEnd) (s : State) : WorkOnly s (applyEnd r v e s) := by
  unfold applyEnd
  split
  · exact freeRequest_workOnly _ s
  · exact workOnly_trans (enterHeld_workOnly _ _ _ s) (makeWriteReport_workOnly r v _)
  · split
    · exact endActive_workOnly r v _ _ s
    · exact endActive_workOnly r v _ _ s
    · exact workOnly_refl s
  · exact workOnly_refl s

theorem closeService_workOnly (v : Service) (next : SequencerState) (s : State) : WorkOnly s (closeService v next s) :=
  workOnly_trans (freeBuffers_workOnly _ s) (workOnly_trans (modifySequencer_workOnly _ _) (modifyDrive_workOnly _ _))

theorem endOnMedium_workOnly (e : MediumEnd) (next : SequencerState) (s : State) : WorkOnly s (endOnMedium e next s) := by
  unfold endOnMedium
  split
  · exact workOnly_refl s
  · dsimp only
    split
    · exact workOnly_trans (closeService_workOnly _ next s) (raiseRetries_workOnly _ _ _)
    · exact workOnly_trans (workOnly_trans (closeService_workOnly _ next s) (raiseRetries_workOnly _ _ _))
        (applyEnd_workOnly _ _ e _)

theorem failOnMedium_workOnly (status : Status) (failing : Nat) (s : State) : WorkOnly s (failOnMedium status failing s) :=
  endOnMedium_workOnly _ _ s

theorem failCurrent_workOnly (status : Status) (s : State) : WorkOnly s (failCurrent status s) := by
  unfold failCurrent
  split
  · exact workOnly_refl s
  · exact failOnMedium_workOnly _ _ s

theorem issueSeek_workOnly (cylinder : Nat) (s : State) : WorkOnly s (issueSeek cylinder s) := modifySequencer_workOnly s _

theorem issueRecalibrate_workOnly (state : SequencerState) (s : State) : WorkOnly s (issueRecalibrate state s) :=
  modifySequencer_workOnly s _

theorem enterSettling_workOnly (s : State) : WorkOnly s (enterSettling s) := modifySequencer_workOnly s _

theorem enterSearching_workOnly (s : State) : WorkOnly s (enterSearching s) := by
  unfold enterSearching
  split
  · exact workOnly_refl s
  · exact modifySequencer_workOnly s _

theorem enterFormatting_workOnly (s : State) : WorkOnly s (enterFormatting s) := by
  unfold enterFormatting
  split
  · exact workOnly_refl s
  · dsimp only
    split
    · exact workOnly_trans (modifySequencer_workOnly s _) (failOnMedium_workOnly _ _ _)
    · exact modifySequencer_workOnly s _

theorem enterTrack_workOnly (r : Request) (s : State) : WorkOnly s (enterTrack r s) := by
  unfold enterTrack
  split
  · exact enterFormatting_workOnly s
  · exact enterSearching_workOnly s

theorem headerMismatch_workOnly (s : State) : WorkOnly s (headerMismatch s) := by
  unfold headerMismatch
  split
  · exact workOnly_refl s
  · split
    · exact workOnly_trans (modifySequencer_workOnly s _) (issueRecalibrate_workOnly _ _)
    · exact failCurrent_workOnly _ s

theorem finishBlocks_workOnly (n retries : Nat) (s : State) : WorkOnly s (finishBlocks n retries s) := by
  unfold finishBlocks
  split
  · exact workOnly_refl s
  · exact updateRequest_workOnly _ _ s

theorem nextBlock_workOnly (v : Service) (s : State) : WorkOnly s (nextBlock v s) := by
  unfold nextBlock
  dsimp only
  split
  · exact workOnly_trans (modifyService_workOnly _ s) (enterSearching_workOnly _)
  · exact workOnly_trans (modifySequencer_workOnly s _) (issueSeek_workOnly _ _)

theorem advance_workOnly (s : State) : WorkOnly s (advance s) := by
  unfold advance
  split
  · exact workOnly_refl s
  · split
    · exact workOnly_refl s
    · split
      · exact endOnMedium_workOnly _ _ s
      · split
        · exact endOnMedium_workOnly _ _ s
        · exact nextBlock_workOnly _ s

theorem dataCheckError_workOnly (s : State) : WorkOnly s (dataCheckError s) := by
  unfold dataCheckError
  split
  · exact workOnly_refl s
  · split
    · exact endOnMedium_workOnly _ _ s
    · split
      · exact workOnly_trans (modifyService_workOnly _ s) (enterSearching_workOnly _)
      · exact failCurrent_workOnly _ s

theorem takeStop_workOnly (s : State) : WorkOnly s (takeStop s) := by
  unfold takeStop
  split
  · exact endOnMedium_workOnly _ _ s
  · exact endOnMedium_workOnly _ _ s
  · split
    · exact workOnly_refl s
    · exact endOnMedium_workOnly _ _ s
  · exact workOnly_refl s

theorem markStop_workOnly (i : Nat) (reason : Status) (s : State) : WorkOnly s (markStop i reason s) :=
  workOnly_trans (updateRequest_workOnly _ _ _) (modifyService_workOnly _ _)

theorem askStop_workOnly (i : Nat) (reason : Status) (s : State) : WorkOnly s (askStop i reason s) := by
  unfold askStop
  split
  · exact workOnly_refl s
  · split
    · exact workOnly_trans (markStop_workOnly _ _ _) (takeStop_workOnly _)
    · exact workOnly_refl s

theorem cessationStop_workOnly (asked : Bool) (s : State) : WorkOnly s (cessationStop asked s) := by
  unfold cessationStop
  split
  · exact takeStop_workOnly s
  · exact workOnly_refl s

theorem cessationOf_workOnly (owner : Port) (extent : Extent) (s : State) (i : Nat) :
    WorkOnly s (cessationOf owner extent s i) := by
  unfold cessationOf
  split
  · exact workOnly_refl s
  · split
    · split
      · exact enterHeld_workOnly _ _ _ s
      · exact enterHeld_workOnly _ _ _ s
      · exact markStop_workOnly _ _ s
      · exact workOnly_refl s
    · exact workOnly_refl s

theorem lockCessation_workOnly (owner : Port) (extent : Extent) (s : State) : WorkOnly s (lockCessation owner extent s) :=
  foldl_workOnly _ (cessationOf_workOnly owner extent) _ s

theorem offlineReport_workOnly (s : State) : WorkOnly s (offlineReport s) := by
  refine foldl_workOnly _ (fun t i => ?_) _ s
  split
  · exact workOnly_refl t
  · split
    · exact enterHeld_workOnly _ _ _ t
    · exact enterHeld_workOnly _ _ _ t
    · exact workOnly_refl t

/-! ### The Head Scheduler, the engines and the end of an event -/

theorem modifyEngine_workOnly (s : State) (p : Port) (f : Engine → Engine) : WorkOnly s (s.modifyEngine p f) :=
  withEngines_workOnly s _

theorem activate_workOnly (i : Nat) (s : State) : WorkOnly s (activate i s) := withRequests_workOnly s _

theorem startPrefetch_workOnly (r : Request) (s : State) : WorkOnly s (startPrefetch r s) := by
  unfold startPrefetch
  split
  · exact modifyEngine_workOnly s _ _
  · exact workOnly_refl s

theorem handOver_workOnly (r : Request) (s : State) : WorkOnly s (handOver r s) := by
  unfold handOver
  dsimp only
  have h := workOnly_trans (workOnly_trans (activate_workOnly r.index s) (withSweep_workOnly _
    (sweepAfter s.sweep (s.sequencer.believed.getD 0) r.cylinder)))
    (workOnly_trans (startPrefetch_workOnly r _) (modifySequencer_workOnly _ fun q =>
      { q with service := some (.start r), head := headOf r.first }))
  split
  · exact workOnly_trans h (enterTrack_workOnly r _)
  · exact workOnly_trans h (issueSeek_workOnly _ _)

theorem runScheduler_workOnly (n : Nat) (s : State) : WorkOnly s (runScheduler n s) := by
  induction n generalizing s with
  | zero => exact workOnly_refl s
  | succ n ih =>
    unfold runScheduler
    split
    · split
      · exact workOnly_refl s
      · exact workOnly_trans (handOver_workOnly _ s) (ih _)
    · exact workOnly_refl s

theorem prefetchPort_workOnly (p : Port) (n : Nat) (s : State) : WorkOnly s (prefetchPort p n s) := by
  induction n generalizing s with
  | zero => exact workOnly_refl s
  | succ n ih =>
    unfold prefetchPort
    split
    · exact workOnly_refl s
    · split
      · split
        · exact modifyEngine_workOnly s p _
        · exact workOnly_trans (workOnly_trans (setBuffer_workOnly _ _ s) (modifyEngine_workOnly _ p _)) (ih _)
      · exact workOnly_refl s

theorem requestBus_workOnly (p : Port) (s : State) : WorkOnly s (requestBus p s) := modifyEngine_workOnly s p _

theorem chooseWork_workOnly (p : Port) (s : State) : WorkOnly s (chooseWork p s) := by
  unfold chooseWork
  split
  · split
    · exact workOnly_refl s
    · exact workOnly_trans (workOnly_trans (setBuffer_workOnly _ _ s) (modifyEngine_workOnly _ p _))
        (requestBus_workOnly p _)
  · exact workOnly_refl s

theorem forPorts_workOnly (f : Port → State → State) (h : ∀ p s, WorkOnly s (f p s)) (s : State) :
    WorkOnly s (forPorts f s) :=
  workOnly_trans (h .a s) (workOnly_trans (h .b _) (workOnly_trans (h .c _) (h .d _)))

theorem settle_workOnly (s : State) : WorkOnly s (settle s) :=
  workOnly_trans (runScheduler_workOnly _ s)
    (workOnly_trans (forPorts_workOnly _ (fun p => prefetchPort_workOnly p _) _)
      (forPorts_workOnly _ chooseWork_workOnly _))

/-! ### The host bus -/

theorem deliveryReport_workOnly (entry : Nat) (s : State) : WorkOnly s (deliveryReport entry s) := by
  unfold deliveryReport
  split
  · exact workOnly_refl s
  · split
    · exact updateRequest_workOnly _ _ s
    · dsimp only
      split
      · exact workOnly_trans (updateRequest_workOnly _ _ s) (enterHeld_workOnly _ _ _ _)
      · exact updateRequest_workOnly _ _ s
    · exact workOnly_refl s

theorem timeoutReport_workOnly (entry : Nat) (s : State) : WorkOnly s (timeoutReport entry s) := by
  unfold timeoutReport
  split
  · exact workOnly_refl s
  · split
    · exact askStop_workOnly _ _ s
    · exact enterHeld_workOnly _ _ _ s
    · exact workOnly_refl s

end Sys2Proof.Machine
end

