-- ==== Sys2Proof/Laws/Locks.lean ====
section
/-! SUPPORT. The Lock Table and the re-examination of the Lock Wait Queue: reads after writes of an entry, what a
re-examination leaves unchanged, and what it depends on. -/

namespace Sys2Proof.Machine

open Sys2Proof.Safety

theorem lockAt_set_self {s : State} {i : Nat} (h : i < s.locks.length) (e : LockEntry) :
    lockAt (s.withLocks (s.locks.set i e)) i = e := by
  simp [lockAt, State.withLocks, List.getD_eq_getElem?_getD, h]

theorem lockAt_set_ne {s : State} {i j : Nat} (h : i ≠ j) (e : LockEntry) :
    lockAt (s.withLocks (s.locks.set i e)) j = lockAt s j := by
  simp [lockAt, State.withLocks, List.getD_eq_getElem?_getD, h]

/-- An entry that is not FREE lies inside the table. -/
theorem lt_length_of_not_free {s : State} {i : Nat} (h : (lockAt s i).state ≠ .free) : i < s.locks.length := by
  by_contra hn
  exact h (by simp [lockAt, List.getD_eq_getElem?_getD, List.getElem?_eq_none (Nat.le_of_not_lt hn)])

/-- Nothing but the Lock Table, the queue of waiters and the pending-record lists differs. -/
def LocksOnly (s t : State) : Prop :=
  t = ((s.withLocks t.locks).withWaiters t.waiters).withPendingRecords t.pendingRecords

theorem locksOnly_refl (s : State) : LocksOnly s s := rfl

theorem locksOnly_trans {s t u : State} (h : LocksOnly s t) (k : LocksOnly t u) : LocksOnly s u := by
  unfold LocksOnly at *
  rw [k, h]
  rfl

theorem setLockState_locksOnly (i : Nat) (state : LockState) (s : State) : LocksOnly s (setLockState i state s) := rfl

theorem allocateLock_locksOnly (i : Nat) (lock : Lock) (grant : Grant) (s : State) :
    LocksOnly s (allocateLock i lock grant s) := rfl

theorem removeWaiter_locksOnly (slot : Nat) (s : State) : LocksOnly s (removeWaiter slot s) := rfl

theorem grantWaiter_locksOnly (s : State) (w : Waiter) : LocksOnly s (grantWaiter s w) := by
  unfold grantWaiter
  split
  · split
    · exact locksOnly_refl s
    · rfl
  · exact locksOnly_refl s

/-- A re-examination touches the Lock Table, the queue of waiters and the pending-record lists alone. -/
theorem reexamine_locksOnly (s : State) : LocksOnly s (reexamine s) := by
  unfold reexamine
  generalize s.waiters = l
  induction l generalizing s with
  | nil => exact locksOnly_refl s
  | cons w l ih => exact locksOnly_trans (grantWaiter_locksOnly s w) (ih _)

/-- The turn of one waiter grants at most that waiter: the entries differ only where a FREE one took its claim. -/
theorem grantWaiter_cases (s : State) (w : Waiter) :
    grantWaiter s w = s ∨
      ∃ i, grantable s w = true ∧ lowestFreeLock s = some i ∧
        grantWaiter s w =
          removeWaiter w.slot (joinPending w.lock.owner (.lock i) (allocateLock i w.lock .unreported s)) := by
  unfold grantWaiter
  split
  · split
    · exact .inl rfl
    · exact .inr ⟨_, ‹_›, ‹_›, rfl⟩
  · exact .inl rfl

/-! ### What a re-examination depends on -/

theorem grantable_congr {s t : State} (hl : t.locks = s.locks) (hw : t.waiters = s.waiters) (w : Waiter) :
    grantable t w = grantable s w := by
  simp only [grantable, conflictsWithHeld, heldLocks, olderWaiters, hl, hw]

theorem lowestFreeLock_congr {s t : State} (hl : t.locks = s.locks) : lowestFreeLock t = lowestFreeLock s := by
  simp only [lowestFreeLock, hl]

theorem grantWaiter_congr {s t : State} (hl : t.locks = s.locks) (hw : t.waiters = s.waiters) (w : Waiter) :
    (grantWaiter t w).locks = (grantWaiter s w).locks ∧ (grantWaiter t w).waiters = (grantWaiter s w).waiters := by
  unfold grantWaiter
  rw [grantable_congr hl hw, lowestFreeLock_congr hl]
  split
  · split
    · exact ⟨hl, hw⟩
    · constructor
      · show t.locks.set _ _ = s.locks.set _ _
        simp only [lockAt, hl]
      · show t.waiters.filter _ = s.waiters.filter _
        rw [hw]
  · exact ⟨hl, hw⟩

theorem foldl_grantWaiter_congr (l : List Waiter) {s t : State} (hl : t.locks = s.locks) (hw : t.waiters = s.waiters) :
    (l.foldl grantWaiter t).locks = (l.foldl grantWaiter s).locks ∧
      (l.foldl grantWaiter t).waiters = (l.foldl grantWaiter s).waiters := by
  induction l generalizing s t with
  | nil => exact ⟨hl, hw⟩
  | cons w l ih => exact ih (grantWaiter_congr hl hw w).1 (grantWaiter_congr hl hw w).2

/-- The locks and the waiters that a re-examination leaves follow from the locks and the waiters alone. -/
theorem reexamine_congr {s t : State} (hl : t.locks = s.locks) (hw : t.waiters = s.waiters) :
    (reexamine t).locks = (reexamine s).locks ∧ (reexamine t).waiters = (reexamine s).waiters := by
  unfold reexamine
  rw [hw]
  exact foldl_grantWaiter_congr s.waiters hl hw

theorem grantWaiter_withWindows (s : State) (v : PortMap Window) (w : Waiter) :
    grantWaiter (s.withWindows v) w = (grantWaiter s w).withWindows v := by
  unfold grantWaiter
  rw [grantable_congr (t := s.withWindows v) (s := s) rfl rfl, lowestFreeLock_congr (t := s.withWindows v) (s := s) rfl]
  split
  · split <;> rfl
  · rfl

/-- A re-examination and a change of the windows may be taken in either order. -/
theorem reexamine_withWindows (s : State) (v : PortMap Window) :
    reexamine (s.withWindows v) = (reexamine s).withWindows v := by
  unfold reexamine
  rw [show (s.withWindows v).waiters = s.waiters from rfl]
  generalize s.waiters = l
  induction l generalizing s with
  | nil => rfl
  | cons w l ih => rw [List.foldl_cons, List.foldl_cons, grantWaiter_withWindows, ih]

theorem grantWaiter_withCompletions (s : State) (v : PortMap (List Record)) (w : Waiter) :
    grantWaiter (s.withCompletions v) w = (grantWaiter s w).withCompletions v := by
  unfold grantWaiter
  rw [grantable_congr (t := s.withCompletions v) (s := s) rfl rfl, lowestFreeLock_congr (t := s.withCompletions v) (s := s) rfl]
  split
  · split <;> rfl
  · rfl

/-- A re-examination and a change of the completion queues may be taken in either order. -/
theorem reexamine_withCompletions (s : State) (v : PortMap (List Record)) :
    reexamine (s.withCompletions v) = (reexamine s).withCompletions v := by
  unfold reexamine
  rw [show (s.withCompletions v).waiters = s.waiters from rfl]
  generalize s.waiters = l
  induction l generalizing s with
  | nil => rfl
  | cons w l ih => rw [List.foldl_cons, List.foldl_cons, grantWaiter_withCompletions, ih]

end Sys2Proof.Machine
end

