-- ==== Sys2Proof/Laws/Window.lean ====
section
/-! SUPPORT. The taking of a command in hand and the posting of its response, said once. -/

namespace Sys2Proof.Machine

open Sys2Proof.Safety

/-- A write of a window word acts while its port is not held in reset. -/
theorem windowWrite_of_free {p : Port} {s : State} (h : s.initLine.get p = false) (effect : State → State) :
    windowWrite p effect s = effect s := by
  simp [windowWrite, h]

/-- A write of a window word does nothing while its port is held in reset. -/
theorem windowWrite_of_held {p : Port} {s : State} (h : s.initLine.get p = true) (effect : State → State) :
    windowWrite p effect s = s := by
  simp [windowWrite, h]

/-- A command in hand whose code the unit owns is decided by it and answered in the same event. -/
theorem takeCommand_inHand {p : Port} {s : State} {command : List Word} {code : Byte} (h : InHand s p command code)
    {owns : Byte → Bool} (hc : owns code = true) (decision : List Word → State → Answer) :
    takeCommand p owns decision s =
      postResponse p code (decision command s).response (decision command s).state := by
  obtain ⟨hw, rfl, hi⟩ := h
  simp [takeCommand, hw, hi, hc]

/-- Posting a response changes the window of its port alone. -/
theorem postResponse_eq (p : Port) (code : Byte) (r : Response) (s : State) :
    postResponse p code r s = s.withWindows (postResponse p code r s).windows := rfl

/-- A response posted on a state with the windows of `s` is the answer to the command in hand in `s`. -/
theorem postResponse_answered {p : Port} {s u : State} (h : u.windows = s.windows) (command : List Word) (r : Response) :
    Answered s (postResponse p (commandCode command) r u) p command r := by
  constructor
  · show (u.windows.set p _).get p = _
    rw [PortMap.get_set_same, h]
  · intro q hq
    show (u.windows.set p _).get q = _
    rw [PortMap.get_set_ne _ _ _ _ hq, h]

/-- A command answered on the state as it stands is answered only. -/
theorem answeredOnly_of_refuse {c : Instr} {p : Port} {s : State} {command : List Word} {r : Response}
    (h : exec c s = .next (postResponse p (commandCode command) r s)) : AnsweredOnly c s p command r :=
  ⟨_, h, postResponse_answered rfl command r, postResponse_eq p _ r s⟩

end Sys2Proof.Machine
end

