-- ==== Sys2Proof/WellFormed.lean ====
section
/-! DEFINITION. Which commands the ports can deliver: the ranges of the operands that their types do not fix. -/

namespace Sys2Proof

/-- The offsets of the window words that have no behaviour of their own: the staging words 7 to 14 and the
read-only words 15 to 29 (R172, Table 11.1). -/
def plainWindowOffset (offset : Nat) : Bool :=
  decide (7 ≤ offset) && decide (offset ≤ 29)

/-- A command whose operands the ports can deliver: a plain window word inside the window (R172), at most
six bytes of a header field and at most 514 bytes of a data field with its check word (R14). -/
def Instr.wellFormed : Instr → Bool
  | .stagingWordWrite _ offset _ => plainWindowOffset offset
  | .headerRead _ field => decide (field.length ≤ 6)
  | .dataFieldEnd _ field => decide (field.length ≤ Config.dataBytes + 2)
  | .powerOnReset .. => true
  | .initAsserted _ => true
  | .initNegated _ => true
  | .reset .. => true
  | .go .. => true
  | .statusWordWrite .. => true
  | .interruptEnableWordWrite .. => true
  | .windowBaseWordWrite .. => true
  | .responseWord0Read _ => true
  | .completionPop .. => true
  | .noticePop .. => true
  | .read _ => true
  | .write _ => true
  | .verify _ => true
  | .formatTrack _ => true
  | .cancel _ => true
  | .acquire _ => true
  | .renew _ => true
  | .release _ => true
  | .forceRelease _ => true
  | .withdraw _ => true
  | .watch _ => true
  | .unwatch _ => true
  | .claimToken _ => true
  | .releaseToken _ => true
  | .setSetting _ => true
  | .readSettings _ => true
  | .unknownCommand _ => true
  | .leaseTick => true
  | .leaseExpiry _ => true
  | .waitDenial _ => true
  | .posting _ => true
  | .writeReport => true
  | .risingReady _ => true
  | .fallingReady _ => true
  | .index _ => true
  | .blockMark _ => true
  | .seekDone _ => true
  | .positioningTimeLimit => true
  | .settleExpiry => true
  | .faultHoldExpiry => true
  | .busGrant _ => true
  | .burstEnd .. => true
  | .hostBusTimeout _ => true

end Sys2Proof
end

