-- ==== Sys2Proof/Tests/Slice0.lean ====
section
/-! SUPPORT. The model's own tests. The smoke test of `Instr.wellFormed`; small tests of one command each, whose expected values are
taken from the rules, tables and examples of spec/ named in their comments; and for each statement with hypotheses a witness, a
concrete state that meets them. -/

namespace Sys2Proof.Tests

open Sys2Proof Sys2Proof.Machine Sys2Proof.Safety

set_option maxRecDepth 100000

/-! ### The operands that no port can deliver are refused -/

theorem test_wellFormed_refuses_offset_below : Instr.wellFormed (.stagingWordWrite .a 6 0) = false := by decide
theorem test_wellFormed_refuses_offset_above : Instr.wellFormed (.stagingWordWrite .a 30 0) = false := by decide
theorem test_wellFormed_accepts_offsets :
    Instr.wellFormed (.stagingWordWrite .a 7 0) = true ∧ Instr.wellFormed (.stagingWordWrite .a 29 0) = true := by decide
theorem test_wellFormed_refuses_long_header : Instr.wellFormed (.headerRead false (List.replicate 7 0)) = false := by decide
theorem test_wellFormed_refuses_long_field : Instr.wellFormed (.dataFieldEnd false (List.replicate 515 0)) = false := by decide

/-! ### Helpers -/

/-- What a command leaves, read by `f`. -/
def after {α : Type} (c : Instr) (s : State) (f : State → α) : Option α :=
  match exec c s with
  | .next t => some (f t)
  | _ => none

/-- The state with a command in hand at a port. -/
def inHand (p : Port) (command : List Word) (s : State) : State :=
  s.setWindow p { s.windows.get p with state := .busy command }

/-- Response words 0 and 1 of a port. -/
def answer (p : Port) (s : State) : List Word := ((s.windows.get p).response).take 2

/-- The state with Lock Table entry `i` given. -/
def withLock (i generation : Nat) (state : LockState) (s : State) : State :=
  s.withLocks (s.locks.set i ⟨generation, state⟩)

/-- Port A's EXCLUSIVE lock over blocks 1000 to 1019. -/
def lockA : Lock := ⟨.a, ⟨1000, 1019⟩, .exclusive⟩

/-- A request of port A with tag 7 in entry 0. -/
def requestA (operation : Operation) (first count : Nat) (state : RequestState) : Request :=
  ⟨0, .a, 7, operation, first, count, [], 0, 0, 0, 0, state⟩

/-- The service record of entry 0 at a block. -/
def serviceAt (current target : Nat) : Service :=
  ⟨0, current, target, .unused, 0, 0, 0, false, false, none, false, .waitIndex⟩

/-- The sequencer serves one request, with the drive ready and the heads on the cylinder and head of the block. -/
def servingState (state : SequencerState) (v : Service) (r : Request) : State :=
  ((State.reset.withRequests [r]).withDrive ⟨true, false, false, []⟩).withSequencer
    { Sequencer.reset with
      state := state
      believed := some (cylinderOf v.current)
      head := headOf v.current
      position := some 3
      service := some v }

/-- IDLE on cylinder 41 with READY asserted. -/
def idleState : State :=
  (State.reset.withDrive ⟨true, false, false, []⟩).withSequencer
    { Sequencer.reset with state := .idle, believed := some 41, position := some 0 }

/-- A data field of zero bytes with its check word. -/
def zeroField : List Byte := withCheck (List.replicate 512 0)

/-- A header of block 1000, which is cylinder 41, head 1, block 4 (Table 1.1). -/
def header1000 : List Byte := headerField 41 1 4 false

/-! ### The medium (chapter 1) -/

/-- Table 1.1. -/
theorem test_block_addresses :
    (cylinderOf 89, headOf 89, blockOf 89) = (3, 1, 5) ∧ (cylinderOf 1000, headOf 1000, blockOf 1000) = (41, 1, 4) ∧
      (cylinderOf 5759, headOf 5759, blockOf 5759) = (239, 1, 11) := by decide

/-- R6: no byte leaves FFFF hex; one zero byte leaves E1F0 hex, by hand from the rule; and the nine characters 1 to 9, 29B1 hex. -/
theorem test_check_words :
    checkWord [] = 0xFFFF ∧ checkWord [0] = 0xE1F0 ∧
      checkWord [0x31, 0x32, 0x33, 0x34, 0x35, 0x36, 0x37, 0x38, 0x39] = 0x29B1 := by decide

/-! ### Power, reset and the window -/

theorem test_powerOnReset_ready_recalibrates :
    after (.powerOnReset true false false false false false) State.reset (fun t => t.sequencer.state) =
      some .recalibrating := by decide

theorem test_initAsserted_holds_the_port :
    after (.initAsserted .b) (idleState.withToken (some .b)) (fun t => (t.initLine.get .b, t.token)) =
      some (true, none) := by decide

theorem test_initNegated_releases_the_port :
    after (.initNegated .b) (State.reset.withInitLine ⟨false, true, false, false⟩) (fun t => t.initLine.get .b) =
      some false := by decide

theorem test_reset_frees_the_locks :
    after (.reset .a 0) (withLock 2 5 (.held lockA .unreported) State.reset) (fun t => lockAt t 2) = some ⟨5, .free⟩ := by
  decide

theorem test_go_copies_the_staging_words :
    after (.go .a 0) (State.reset.setWindow .a { Window.reset with staging := [0x11, 2, 0, 0, 0, 0, 0, 0] })
      (fun t => (t.windows.get .a).state) = some (.busy [0x11, 2, 0, 0, 0, 0, 0, 0]) := by decide

theorem test_go_in_busy_is_an_overrun :
    after (.go .a 0) (inHand .a [0x33] State.reset)
      (fun t => ((t.windows.get .a).commandOverrun, (t.windows.get .a).state)) = some (true, .busy [0x33]) := by decide

theorem test_stagingWordWrite_last_word :
    after (.stagingWordWrite .c 14 0x1234) State.reset (fun t => (t.windows.get .c).staging) =
      some [0, 0, 0, 0, 0, 0, 0, 0x1234] := by decide

theorem test_statusWordWrite_leaves_the_other_flag :
    after (.statusWordWrite .a 4) (State.reset.withNotices (State.reset.notices.set .a ⟨[], true⟩))
      (fun t => (t.notices.get .a).lost) = some false := by decide

theorem test_interruptEnableWordWrite_bits :
    after (.interruptEnableWordWrite .a 0xFFFA) State.reset (fun t => (t.enables.get .a, windowWord t .a 1)) =
      some (⟨false, true, false⟩, 2) := by decide

theorem test_windowBaseWordWrite_low_byte :
    after (.windowBaseWordWrite .a 0x1281) State.reset (fun t => windowWord t .a 2) = some 0x0081 := by decide

theorem test_responseWord0Read_clears_ready :
    after (.responseWord0Read .a)
      (State.reset.setWindow .a { Window.reset with response := [0x0104, 0, 0, 0, 0, 0, 0, 0], responseReady := true })
      (fun t => ((t.windows.get .a).responseReady, (t.windows.get .a).readData)) = some (false, 0x0104) := by decide

theorem test_completionPop_shows_the_next :
    after (.completionPop .a 0)
      (State.reset.withCompletions (State.reset.completions.set .a [.lockDenied 3, .lockDenied 5]))
      (fun t => t.completions.get .a) = some [.lockDenied 5] := by decide

theorem test_noticePop_keeps_notice_lost :
    after (.noticePop .a 0)
      (State.reset.withNotices (State.reset.notices.set .a ⟨[⟨2, .b, ⟨3, 4⟩, .written⟩], true⟩))
      (fun t => t.notices.get .a) = some ⟨[], true⟩ := by decide

/-! ### Transfers (chapters 4, 5 and 11) -/

/-- A lock of port A covers the blocks, and the drive stands OFFLINE no longer. -/
def lockedIdle : State := withLock 0 1 (.held lockA (.reported none)) idleState

/-- READ, tag 7, blocks 1000 to 1003, host address 0: ACCEPTED in entry 0 (codes 01 hex and 01 hex), and the idle sequencer, on the
request's cylinder 41, searches for it at once (R60, R82, R100). -/
theorem test_read_accepted_and_started :
    after (.read .a) (inHand .a [1, 7, 1000, 4, 0, 0, 0, 0] lockedIdle)
      (fun t => (answer .a t, t.sequencer.state, t.sequencer.head)) = some ([0x0101, 0], .searching, 1) := by decide

/-- WRITE with an odd host address: BAD PARAMETER (Table 4.2, check 1). -/
theorem test_write_odd_address :
    after (.write .a) (inHand .a [2, 7, 1000, 4, 1, 0, 0, 0] lockedIdle) (answer .a) = some [0x0210, 0] := by decide

/-- VERIFY of a block outside the port's lock: NOT LOCKED (check 8). -/
theorem test_verify_not_locked :
    after (.verify .a) (inHand .a [3, 7, 1019, 2, 0, 0, 0, 0] lockedIdle) (answer .a) = some [0x0316, 0] := by decide

/-- FORMAT TRACK without maintenance permission over a locked track: NOT PERMITTED (check 9); cylinder 41, head 1 is blocks 996 to
1007. -/
theorem test_formatTrack_not_permitted :
    after (.formatTrack .a)
      (inHand .a [4, 7, 41, 1, 0, 0xE5, 0, 0] (withLock 0 1 (.held ⟨.a, ⟨990, 1010⟩, .exclusive⟩ (.reported none)) idleState))
      (answer .a) = some [0x041F, 0] := by decide

/-- CANCEL of a WAITING request: DONE, HELD with CANCELLED (R74). -/
theorem test_cancel_waiting :
    after (.cancel .a) (inHand .a [5, 7, 0, 0, 0, 0, 0, 0] (State.reset.withRequests [requestA .verify 1000 4 .waiting]))
      (fun t => (answer .a t, t.requests.map Request.state)) = some ([0x0504, 0], [.held .cancelled none]) := by decide

/-! ### Locks (chapters 2 and 3) -/

/-- The first lock ever granted in entry 0 carries generation 1 (R17), and its lease is 50 ticks (R25). -/
theorem test_acquire_first_lock :
    after (.acquire .a) (inHand .a [0x10, 1000, 1019, 1, 0, 0, 0, 0] State.reset)
      (fun t => (answer .a t, lockAt t 0)) = some ([0x1002, 0x01], ⟨1, .held lockA (.reported (some 50))⟩) := by decide

/-- A conflicting ACQUIRE with a wait limit is QUEUED in slot 0 (R43). -/
theorem test_acquire_queued :
    after (.acquire .b) (inHand .b [0x10, 1019, 1020, 0, 255, 0, 0, 0] (withLock 0 1 (.held lockA (.reported none)) State.reset))
      (fun t => (answer .b t, t.waiters)) =
      some ([0x1003, 0], [⟨0, ⟨.b, ⟨1019, 1020⟩, .shared⟩, .waiting none⟩]) := by decide

/-- RENEW turns NO LEASE into the lease-length setting (R27); handle index 2, generation 5 is 25 hex. -/
theorem test_renew_sets_the_lease :
    after (.renew .a) (inHand .a [0x11, 0x25, 0, 0, 0, 0, 0, 0] (withLock 2 5 (.held lockA (.reported none)) State.reset))
      (fun t => (answer .a t, lockAt t 2)) = some ([0x1104, 0], ⟨5, .held lockA (.reported (some 50))⟩) := by decide

/-- RELEASE of another generation: STALE HANDLE (R18). -/
theorem test_release_stale :
    after (.release .a) (inHand .a [0x12, 0x24, 0, 0, 0, 0, 0, 0] (withLock 2 5 (.held lockA (.reported none)) State.reset))
      (answer .a) = some [0x1218, 0] := by decide

/-- RELEASE frees the entry, and the waiter it barred is granted there with the next generation (R31, R46, R47). -/
theorem test_release_grants_the_waiter :
    after (.release .a)
      (inHand .a [0x12, 0x0F, 0, 0, 0, 0, 0, 0]
        ((withLock 0 15 (.held lockA (.reported none)) State.reset).withWaiters
          [⟨3, ⟨.b, ⟨1000, 1000⟩, .shared⟩, .waiting (some 9)⟩]))
      (fun t => (lockAt t 0, t.waiters, t.pendingRecords.get .b)) =
      some (⟨0, .held ⟨.b, ⟨1000, 1000⟩, .shared⟩ .unreported⟩, [], [.lock 0]) := by decide

/-- FORCE RELEASE of an unreported grant: the entry ends FORCED (R35). -/
theorem test_forceRelease_unreported :
    after (.forceRelease .b)
      (inHand .b [0x13, 0x25, 0, 0, 0, 0, 0, 0]
        ((withLock 2 5 (.held lockA .unreported) State.reset).withSettings
          { Settings.reset with maintenance := ⟨false, true, false, false⟩ }))
      (fun t => (answer .b t, lockAt t 2)) = some ([0x1304, 0], ⟨5, .ended lockA .forced⟩) := by decide

/-- WITHDRAW of another port's waiter: NOT FOUND (R51). -/
theorem test_withdraw_other_port :
    after (.withdraw .a)
      (inHand .a [0x14, 3, 0, 0, 0, 0, 0, 0]
        (State.reset.withWaiters [⟨3, ⟨.b, ⟨1000, 1000⟩, .shared⟩, .waiting (some 9)⟩]))
      (fun t => (answer .a t, t.waiters.length)) = some ([0x1419, 0], 1) := by decide

/-- A lease at its last tick expires, and one with two ticks left has one (R26, R28). -/
theorem test_leaseTick :
    after .leaseTick
      (withLock 0 1 (.held lockA (.reported (some 1))) (withLock 1 1 (.held ⟨.b, ⟨5, 6⟩, .shared⟩ (.reported (some 2))) State.reset))
      (fun t => (lockAt t 0, lockAt t 1, t.pendingRecords.get .a)) =
      some (⟨1, .ended lockA .expired⟩, ⟨1, .held ⟨.b, ⟨5, 6⟩, .shared⟩ (.reported (some 1))⟩, [.lock 0]) := by decide

theorem test_leaseExpiry :
    after (.leaseExpiry 15) (withLock 15 4 (.held lockA (.reported (some 1))) State.reset) (fun t => lockAt t 15) =
      some ⟨4, .ended lockA .expired⟩ := by decide

/-- A lease expires under an ACTIVE VERIFY in SETTLING: the stop is taken at once, and its record stands behind the lock's own
(R73, R116; log 23). -/
theorem test_leaseExpiry_stops_in_settling :
    after (.leaseExpiry 0)
      (withLock 0 4 (.held ⟨.a, ⟨990, 1010⟩, .shared⟩ (.reported (some 1)))
        (servingState .settling (serviceAt 1000 41) (requestA .verify 1000 4 (.active none))))
      (fun t => (t.pendingRecords.get .a, t.requests.map Request.state, t.sequencer.state)) =
      some ([.lock 0, .request 0], [.held .lockLost none], .idle) := by decide

theorem test_waitDenial :
    after (.waitDenial 7) (State.reset.withWaiters [⟨7, lockA, .waiting (some 1)⟩])
      (fun t => (t.waiters.map Waiter.state, t.pendingRecords.get .a)) = some ([.denied], [.waiter 7]) := by decide

/-! ### Records, watches and settings (chapters 8 to 10) -/

/-- The posting of a HELD request: TRANSFER DONE, and the entry FREE (R147). -/
theorem test_posting_transferDone :
    after (.posting .a)
      ((State.reset.withRequests [requestA .verify 1000 4 (.held .dataCheck (some 1002))]).withPendingRecords
        (State.reset.pendingRecords.set .a [.request 0]))
      (fun t => (t.completions.get .a, t.requests)) = some ([.transferDone 7 .dataCheck 0 0 (some 1002)], []) := by decide

/-- The example of 09, 9.6: A's write of 1000 to 1011 gives B's watches 0 and 1 one notice each; B's queue of three takes the first,
and the second is dropped with NOTICE LOST. -/
theorem test_writeReport_example :
    after .writeReport
      (((State.reset.withWriteReports [⟨.a, ⟨1000, 1011⟩, .written⟩]).withWatches
          (State.reset.watches.set .b [some ⟨990, 1005⟩, some ⟨1010, 1030⟩, none, none])).withNotices
        (State.reset.notices.set .b ⟨List.replicate 3 ⟨0, .d, ⟨995, 995⟩, .written⟩, false⟩))
      (fun t => (((t.notices.get .b).queue.drop 3), (t.notices.get .b).lost)) =
      some ([⟨0, .a, ⟨1000, 1005⟩, .written⟩], true) := by decide

theorem test_watch_lowest_slot :
    after (.watch .a)
      (inHand .a [0x20, 5759, 5759, 0, 0, 0, 0, 0] (State.reset.withWatches (State.reset.watches.set .a [some ⟨0, 1⟩, none, none, none])))
      (fun t => (answer .a t, (t.watches.get .a).take 2)) = some ([0x2004, 1], [some ⟨0, 1⟩, some ⟨5759, 5759⟩]) := by decide

theorem test_unwatch_empty_slot :
    after (.unwatch .a) (inHand .a [0x21, 3, 0, 0, 0, 0, 0, 0] State.reset) (answer .a) = some [0x2119, 0] := by decide

theorem test_claimToken_held :
    after (.claimToken .a) (inHand .a [0x30, 0, 0, 0, 0, 0, 0, 0] (State.reset.withToken (some .d)))
      (fun t => (answer .a t, t.token)) = some ([0x3020, 3], some .d) := by decide

theorem test_releaseToken_without_it :
    after (.releaseToken .a) (inHand .a [0x31, 0, 0, 0, 0, 0, 0, 0] (State.reset.withToken (some .d)))
      (fun t => (answer .a t, t.token)) = some ([0x3121, 0], some .d) := by decide

/-- At power-on the quotas make up the whole table, so none can be raised (R164, R168). -/
theorem test_setSetting_quota_sum :
    after (.setSetting .a) (inHand .a [0x32, 0, 9, 0, 0, 0, 0, 0] (State.reset.withToken (some .a))) (answer .a) =
      some [0x3210, 0] := by decide

theorem test_setSetting_lowers_a_quota :
    after (.setSetting .a) (inHand .a [0x32, 1, 6, 0, 0, 0, 0, 0] (State.reset.withToken (some .a)))
      (fun t => (answer .a t, t.settings.quota)) = some ([0x3204, 0], ⟨8, 6, 8, 8⟩) := by decide

/-- The power-on settings in the words of Table 11.4, with no token holder. -/
theorem test_readSettings_power_on :
    after (.readSettings .a) (inHand .a [0x33, 0, 0, 0, 0, 0, 0, 0] State.reset) (fun t => (t.windows.get .a).response) =
      some [0x3304, 0x0808, 0x0808, 0, 50, 2, 0x0404, 50] := by decide

theorem test_unknownCommand :
    after (.unknownCommand .a) (inHand .a [0x77, 0, 0, 0, 0, 0, 0, 0] State.reset) (answer .a) = some [0x7724, 0] := by decide

/-! ### The drive (chapters 1 and 6) -/

theorem test_risingReady :
    after (.risingReady true) State.reset
      (fun t => (t.sequencer.state, t.sequencer.outstanding, t.drive.writeProtect)) =
      some (.recalibrating, some .recalibrate, true) := by decide

/-- A falling READY during a VERIFY: HOLDING, and the request HELD with DRIVE NOT READY (R99). -/
theorem test_fallingReady_verify :
    after (.fallingReady false)
      (servingState .transferring (serviceAt 1000 41) (requestA .verify 1000 4 (.active none)))
      (fun t => (t.sequencer.state, t.requests.map Request.state)) = some (.holding, [.held .driveNotReady none]) := by decide

theorem test_index_second_ends_the_search :
    after (.index false)
      (servingState .searching { serviceAt 1000 41 with indexPasses := 1 } (requestA .verify 1000 4 (.active none)))
      (fun t => (t.sequencer.state, t.requests.map Request.state)) =
      some (.idle, [.held .headerNotFound (some 1000)]) := by decide

theorem test_blockMark_wraps_the_position :
    after (.blockMark false) (idleState.withSequencer { idleState.sequencer with position := some 11 })
      (fun t => t.sequencer.position) = some (some 0) := by decide

/-- A header written out byte by byte: cylinder 41, head 1, block 4, flags 00 (R3); its block found, the position is 5 (R10) and the
VERIFY transfers (R105). -/
theorem test_headerRead_target :
    after (.headerRead false (withCheck [41, 1, 4, 0]))
      (servingState .searching { serviceAt 1000 41 with headerReading := true } (requestA .verify 1000 4 (.active none)))
      (fun t => (t.sequencer.state, t.sequencer.position)) = some (.transferring, some 5) := by decide

/-- A DEFECTIVE block is not verified (R4, R105). -/
theorem test_headerRead_defective :
    after (.headerRead false (withCheck [41, 1, 4, 1]))
      (servingState .searching { serviceAt 1000 41 with headerReading := true } (requestA .verify 1000 4 (.active none)))
      (fun t => t.requests.map Request.state) = some [.held .defectiveBlock (some 1000)] := by decide

/-- An incomplete data field is a data check error, retried while retries are left (R14, R109). -/
theorem test_dataFieldEnd_incomplete :
    after (.dataFieldEnd false [1, 2, 3])
      (servingState .transferring (serviceAt 1000 41) (requestA .verify 1000 4 (.active none)))
      (fun t => (t.sequencer.state, t.sequencer.service.map Service.retriesSpent)) = some (.searching, some 1) := by decide

/-- The last block of a WRITE: HELD with OK, and the write report made (R66, R108, R157). -/
theorem test_dataFieldEnd_last_write :
    after (.dataFieldEnd false [])
      (servingState .transferring { serviceAt 1003 41 with written := 4 } { requestA (.write 0) 1000 4 (.active none) with
        mediumCount := 3, blocksDone := 3 })
      (fun t => (t.requests.map Request.state, t.requests.map Request.blocksDone, t.writeReports)) =
      some ([.held .ok none], [4], [⟨.a, ⟨1000, 1003⟩, .written⟩]) := by decide

theorem test_seekDone_settles :
    after (.seekDone false)
      ((servingState .seeking (serviceAt 1000 41) (requestA .verify 1000 4 (.active none))).modifySequencer
        fun q => { q with outstanding := some (.seek 41), positioningTimer := some 1000 })
      (fun t => (t.sequencer.state, t.sequencer.believed, t.sequencer.settleTimer)) =
      some (.settling, some 41, some 4) := by decide

theorem test_positioningTimeLimit_recovers :
    after .positioningTimeLimit
      ((servingState .seeking (serviceAt 1000 41) (requestA .verify 1000 4 (.active none))).modifySequencer
        fun q => { q with outstanding := some (.seek 41), positioningTimer := some 1000 })
      (fun t => (t.sequencer.state, t.sequencer.outstanding)) = some (.seeking, some .recalibrate) := by decide

theorem test_settleExpiry_format_waits_for_index :
    after .settleExpiry
      ((servingState .settling (serviceAt 996 41) (requestA (.format 0 0xE5) 996 12 (.active none))).modifySequencer
        fun q => { q with settleTimer := some 4 })
      (fun t => (t.sequencer.state, t.sequencer.head)) = some (.formatting, 1) := by decide

theorem test_faultHoldExpiry :
    after .faultHoldExpiry
      ((State.reset.withRequests [requestA .verify 1000 4 .ready]).withSequencer
        { Sequencer.reset with state := .holding, faultHoldTimer := some 4 })
      (fun t => (t.sequencer.state, t.requests.map Request.state)) = some (.offline, [.held .driveNotReady none]) := by decide

/-! ### The host bus (chapter 7) -/

/-- A DRAINING READ of port A, two blocks at host address 1000 hex, whose second block is being delivered. -/
def draining (moved : Nat) (state : EngineState) : State :=
  ((State.reset.withRequests
      [{ requestA (.read 0x1000) 1000 2 (.draining .ok none) with mediumCount := 2, blocksDone := 1 }]).withBuffers
    [none, some ⟨0, 1001, .draining moved (List.replicate 256 0x55AA)⟩, none, none, none, none]).modifyEngine .a fun e =>
    { e with state := state, current := some 1, timer := if state = .requesting then some 50 else none }

/-- The word at the start of the second burst of the request's second block: 1000 hex + 512 + 32 under base 81 hex (R134). -/
theorem test_busGrant_address :
    after (.busGrant .a) ((draining 16 .requesting).modifyEngine .a fun e => { e with bufferBase := 0x81 })
      (fun t => ((t.engines.get .a).state, (t.engines.get .a).burstAddress)) = some (.moving, 0x81001220) := by decide

/-- The last burst of the last block: the request is HELD with its outcome (R69). -/
theorem test_burstEnd_completes_the_drain :
    after (.burstEnd .a (Vector.replicate 16 0)) (draining 240 .moving)
      (fun t => (t.requests.map Request.state, t.requests.map Request.blocksDone, (t.engines.get .a).state)) =
      some ([.held .ok none], [2], .idle) := by decide

theorem test_hostBusTimeout_ends_the_drain :
    after (.hostBusTimeout .a) (draining 16 .requesting)
      (fun t => (t.requests.map Request.state, (t.engines.get .a).state, bufferAt t 1)) =
      some ([.held .hostBusTimeout none], .idle, none) := by decide

/-! ### The step -/

theorem test_step_takes_the_front :
    (match step (State.reset.withPending [.risingReady false, .leaseTick]) with
    | .next t => some (t.sequencer.state, t.pending)
    | _ => none) = some (.recalibrating, [.leaseTick]) := by decide

/-! ### Witnesses: states and operands that meet the hypotheses of each statement together -/

theorem witness_StepTakesTheFrontCommand :
    (State.reset.withPending [.leaseTick, .writeReport]).pending = .leaseTick :: [.writeReport] ∧ State.reset.pending = [] :=
  ⟨rfl, rfl⟩

theorem witness_PortResetClearsThePort :
    EntriesDistinct (servingState .searching (serviceAt 1000 41) (requestA .verify 1000 4 (.active none))) ∧
      (servingState .searching (serviceAt 1000 41) (requestA .verify 1000 4 (.active none))).initLine.get .a = false :=
  ⟨⟨by decide, by decide⟩, rfl⟩

theorem witness_HeldPortDisregardsWrites : (State.reset.withInitLine ⟨true, false, false, false⟩).initLine.get .a = true := rfl

theorem witness_GoAndResponseReadHandshake :
    State.reset.initLine.get .a = false ∧ (State.reset.windows.get .a).state = .idle ∧
      ((inHand .a [0x33] State.reset).windows.get .a).state = .busy [0x33] := ⟨rfl, rfl, rfl⟩

theorem witness_StagingWordsReadBack :
    State.reset.initLine.get .a = false ∧ (7 ≤ 7 ∧ 7 ≤ 14) ∧ (7 ≤ 14 ∧ 14 ≤ 14) ∧ (15 ≤ 15 ∧ 15 ≤ 29) ∧ (15 ≤ 29 ∧ 29 ≤ 29) ∧
      (State.reset.windows.get .a).staging.length = 8 ∧ (3 ≤ 6 ∧ 6 ≤ 6) ∧ (15 ≤ 22 ∧ 22 ≤ 22) ∧
      (⟨15, 15⟩ : Handle).index < 16 ∧ (⟨15, 15⟩ : Handle).generation < 16 ∧ SettingsInRange State.reset :=
  ⟨rfl, by decide, by decide, by decide, by decide, rfl, by decide, by decide, by decide, by decide,
    by unfold SettingsInRange; decide⟩

/-- Table 11.4 for settings at the ends of their ranges, and the layout of a refusal, of a handle and of the record and notice words
(R183, R184), by hand from the tables. -/
theorem test_words_of_the_tables :
    responseWords 0x33 (.doneSettings ⟨⟨32, 0, 0, 0⟩, ⟨true, false, false, true⟩, 255, 7, 15, 1, 255⟩ (some .d)) =
        [0x3304, 32, 0, 0x49, 255, 7, 0x010F, 255] ∧
      responseWords 0x10 (.granted ⟨15, 4⟩) = [0x1002, 0xF4, 0, 0, 0, 0, 0, 0] ∧
      recordWords [.transferDone 0xAB .hostBusTimeout 64 7 (some 0)] = [0x99AB, 0x8000, 0x0740, 0] ∧
      recordWords [.lockForced ⟨2, 5⟩] = [0xD000, 0x25, 0, 0] ∧
      noticeWords [⟨3, .d, ⟨1, 5759⟩, .formatted⟩] = [0xB301, 1, 5759] := by decide

/-- The queues at their capacities. -/
def fullQueues : State :=
  (State.reset.withCompletions (.all (List.replicate 8 (.lockDenied 0)))).withNotices
    (.all ⟨List.replicate 4 ⟨0, .b, ⟨1, 2⟩, .written⟩, true⟩)

theorem queuesBounded_fullQueues : QueuesBounded fullQueues := by
  intro p
  cases p <;> decide

theorem witness_StatusWordShowsAndClears : State.reset.initLine.get .a = false ∧ QueuesBounded fullQueues :=
  ⟨rfl, queuesBounded_fullQueues⟩

theorem witness_InterruptLineFollowsTheConditions : State.reset.initLine.get .d = false := rfl

theorem witness_PopsDiscardTheHead :
    fullQueues.initLine.get .a = false ∧
      fullQueues.completions.get .a = .lockDenied 0 :: List.replicate 7 (.lockDenied 0) ∧
      State.reset.completions.get .a = [] ∧
      (fullQueues.notices.get .a).queue = ⟨0, .b, ⟨1, 2⟩, .written⟩ :: List.replicate 3 ⟨0, .b, ⟨1, 2⟩, .written⟩ ∧
      (State.reset.notices.get .a).queue = [] ∧
      (∀ record : Record, (State.reset.withCompletions (.all [record])).completions.get .a = record :: []) ∧
      (∀ block, some 5759 = some block → block ≤ 5759) :=
  ⟨rfl, rfl, rfl, rfl, rfl, fun _ => rfl, by simp⟩

theorem witness_CommandsKeepToTheirPort :
    windowPort (.go .a 0) ≠ some .b ∧ (∀ ready wp i j k l, Instr.go .a 0 ≠ .powerOnReset ready wp i j k l) ∧
      maySet (.go .a 0) = false := by
  refine ⟨by decide, ?_, rfl⟩
  intros
  simp

/-- Port A's lock over a whole track and its maintenance permission, with the drive SEARCHING for another port's request. -/
def acceptState (command : List Word) : State :=
  inHand .a command
    ((withLock 0 1 (.held ⟨.a, ⟨996, 1019⟩, .exclusive⟩ (.reported none))
      (servingState .searching (serviceAt 24 1) { requestA .verify 24 4 (.active none) with port := .b })).withSettings
        { Settings.reset with maintenance := .all true })

theorem acceptable_of {command : List Word} {x : Transfer}
    (h : x.parametersGood = true ∧ x.inRange = true ∧ x.hostInRange = true ∧ x.first = 996 ∧ x.count ≤ 24) :
    Acceptable .a x (acceptState command) := by
  obtain ⟨h1, h2, h3, h4, h5⟩ := h
  refine ⟨h1, h2, h3, ?_, ?_, ⟨1, by decide, ?_⟩, ?_, ?_, fun _ => rfl⟩
  · intro r hr
    have hr' : r ∈ [{ requestA .verify 24 4 (.active none) with port := .b }] := hr
    rw [List.mem_singleton] at hr'
    subst hr'
    intro h
    cases h
  · show 0 < 8
    decide
  · intro r hr
    have hr' : r ∈ [{ requestA .verify 24 4 (.active none) with port := .b }] := hr
    rw [List.mem_singleton] at hr'
    subst hr'
    decide
  · intro h
    cases h
  · intro k hk
    refine ⟨⟨.a, ⟨996, 1019⟩, .exclusive⟩, ?_, rfl, ?_, ?_, fun _ => rfl⟩
    · show _ ∈ heldLocks (withLock 0 1 (.held ⟨.a, ⟨996, 1019⟩, .exclusive⟩ (.reported none)) State.reset)
      decide
    · show 996 ≤ _
      omega
    · show _ ≤ 1019
      omega

theorem witness_TransferAccepted_read :
    InHand (acceptState [1, 7, 996, 24, 0, 0, 0, 0]) .a [1, 7, 996, 24, 0, 0, 0, 0] 0x01 ∧
      Acceptable .a (readOf [1, 7, 996, 24, 0, 0, 0, 0]) (acceptState [1, 7, 996, 24, 0, 0, 0, 0]) :=
  ⟨⟨rfl, rfl, rfl⟩, acceptable_of (by decide)⟩

theorem witness_TransferAccepted_write :
    InHand (acceptState [2, 7, 996, 1, 0, 0, 0, 0]) .a [2, 7, 996, 1, 0, 0, 0, 0] 0x02 ∧
      Acceptable .a (writeOf [2, 7, 996, 1, 0, 0, 0, 0]) (acceptState [2, 7, 996, 1, 0, 0, 0, 0]) :=
  ⟨⟨rfl, rfl, rfl⟩, acceptable_of (by decide)⟩

theorem witness_TransferAccepted_verify :
    InHand (acceptState [3, 7, 996, 24, 0, 0, 0, 0]) .a [3, 7, 996, 24, 0, 0, 0, 0] 0x03 ∧
      Acceptable .a (verifyOf [3, 7, 996, 24, 0, 0, 0, 0]) (acceptState [3, 7, 996, 24, 0, 0, 0, 0]) :=
  ⟨⟨rfl, rfl, rfl⟩, acceptable_of (by decide)⟩

theorem witness_TransferAccepted_formatTrack :
    InHand (acceptState [4, 7, 41, 1, 0x0FFF, 0xE5, 0, 0]) .a [4, 7, 41, 1, 0x0FFF, 0xE5, 0, 0] 0x04 ∧
      Acceptable .a (formatOf [4, 7, 41, 1, 0x0FFF, 0xE5, 0, 0]) (acceptState [4, 7, 41, 1, 0x0FFF, 0xE5, 0, 0]) :=
  ⟨⟨rfl, rfl, rfl⟩, acceptable_of (by decide)⟩

/-- A full table: 32 VERIFYs of port B. -/
def fullTable : List Request :=
  (List.range 32).map fun i => { requestA .verify 24 1 .ready with index := i, port := .b }

/-- The nine checks, each failing with the ones before it passed: 0 and 65 blocks and head 2; block 5760; the last address; the tag
of a request; a quota of 0; a full table; OFFLINE; no lock; no permission. -/
theorem witness_TransferChecksInOrder :
    InHand (acceptState [3, 7, 996, 24, 0, 0, 0, 0]) .a [3, 7, 996, 24, 0, 0, 0, 0] 0x03 ∧
    (verifyOf [3, 7, 996, 0]).parametersGood = false ∧ (verifyOf [3, 7, 996, 65]).parametersGood = false ∧
    (formatOf [4, 7, 41, 2]).parametersGood = false ∧
    ((verifyOf [3, 7, 5759, 2]).parametersGood = true ∧ (verifyOf [3, 7, 5759, 2]).inRange = false) ∧
    ((readOf [1, 7, 0, 1, 0xFE02, 0xFF]).parametersGood = true ∧ (readOf [1, 7, 0, 1, 0xFE02, 0xFF]).inRange = true ∧
      (readOf [1, 7, 0, 1, 0xFE02, 0xFF]).hostInRange = false) ∧
    (let x := verifyOf [3, 7, 996, 64];
      x.parametersGood = true ∧ x.inRange = true ∧ x.hostInRange = true ∧
      (∃ r ∈ (State.reset.withRequests [requestA .verify 0 1 .ready]).requests, r.port = .a ∧ r.tag = x.tag) ∧
      (∀ r ∈ State.reset.requests, r.port = .a → r.tag ≠ x.tag) ∧
      (State.reset.withSettings { Settings.reset with quota := ⟨0, 8, 8, 8⟩ }).settings.quota.get .a ≤
        portCount (State.reset.withSettings { Settings.reset with quota := ⟨0, 8, 8, 8⟩ }) .a ∧
      portCount (State.reset.withRequests fullTable) .a < (State.reset.withRequests fullTable).settings.quota.get .a ∧
      (∀ i, i < 32 → ∃ r ∈ (State.reset.withRequests fullTable).requests, r.index = i) ∧
      (∀ r ∈ State.reset.requests, r.index ≠ 31) ∧ State.reset.sequencer.state = .offline ∧
      idleState.sequencer.state ≠ .offline ∧ covered idleState .a x = false) ∧
    (let x := formatOf [4, 7, 41, 1, 0, 0xE5];
      let s := withLock 0 1 (.held ⟨.a, ⟨996, 1007⟩, .exclusive⟩ (.reported none)) idleState;
      x.parametersGood = true ∧ x.inRange = true ∧ covered s .a x = true ∧ x.operation.isFormat = true ∧
        s.settings.maintenance.get .a = false) :=
  ⟨⟨rfl, rfl, rfl⟩, by decide⟩

/-- A CANCEL of tag 7 in hand at port A. -/
def cancelIn (s : State) : State := inHand .a [5, 7, 0, 0, 0, 0, 0, 0] s

theorem inHand_cancelIn {s : State} (h : s.initLine.get .a = false) :
    InHand (cancelIn s) .a [5, 7, 0, 0, 0, 0, 0, 0] 0x05 := ⟨rfl, rfl, h⟩

theorem witness_CancelEndsOrStopsTheRequest :
    (∀ st, EntriesDistinct (cancelIn (servingState .idle (serviceAt 1000 41) (requestA .verify 1000 4 st)))) ∧
    InHand (cancelIn (servingState .idle (serviceAt 1000 41) (requestA .verify 1000 4 .waiting))) .a
      [5, 7, 0, 0, 0, 0, 0, 0] 0x05 ∧
    (∀ st, st ≠ .orphaned →
      findTag (cancelIn (servingState .settling (serviceAt 1000 41) (requestA .verify 1000 4 st))) .a
        (tagOf [5, 7, 0, 0, 0, 0, 0, 0]) = some (requestA .verify 1000 4 st)) ∧
    (serviceAt 1000 41).entry = (requestA .verify 1000 4 (.active none)).index ∧
    (∀ r ∈ (cancelIn (servingState .searching (serviceAt 1000 41) (requestA .verify 1000 4 .orphaned))).requests,
      r.port = .a → r.tag = tagOf [5, 7, 0, 0, 0, 0, 0, 0] → r.state = .orphaned) := by
  refine ⟨fun st => ⟨by simp [cancelIn, servingState, inHand, State.setWindow, State.withWindows, State.withSequencer,
      State.withDrive, State.withRequests], ?_⟩, ⟨rfl, rfl, rfl⟩, ?_, rfl, ?_⟩
  · intro r hr
    have hr' : r ∈ [requestA .verify 1000 4 st] := hr
    rw [List.mem_singleton] at hr'
    subst hr'
    show 0 < 32
    decide
  · intro st hst
    show List.find? _ [requestA .verify 1000 4 st] = _
    simp [requestA, tagOf, lowByte, commandWord, Request.counts, hst]
  · intro r hr
    have hr' : r ∈ [requestA .verify 1000 4 .orphaned] := hr
    rw [List.mem_singleton] at hr'
    subst hr'
    exact fun _ _ => rfl

/-- An ACQUIRE in hand at port A. -/
def acquireIn (first last mode limit : Word) (s : State) : State := inHand .a [0x10, first, last, mode, limit, 0, 0, 0] s

/-- Every entry of the Lock Table HELD by port C on a block of its own. -/
def fullLocks : State :=
  State.reset.withLocks ((List.range 16).map fun i => ⟨1, .held ⟨.c, ⟨i, i⟩, .shared⟩ (.reported none)⟩)

/-- Every slot of the Lock Wait Queue occupied by port D, denied. -/
def fullSlots (s : State) : State :=
  s.withWaiters ((List.range 8).map fun n => ⟨n, ⟨.d, ⟨4000, 4000⟩, .shared⟩, .denied⟩)

theorem witness_AcquireGrantsAtOnce :
    let s := acquireIn 1000 5759 0 0 (withLock 0 9 (.held ⟨.b, ⟨1000, 1019⟩, .shared⟩ (.reported none)) State.reset);
    InHand s .a [0x10, 1000, 5759, 0, 0, 0, 0, 0] 0x10 ∧
    modeOf (commandWord [0x10, 1000, 5759, 0, 0, 0, 0, 0] 3) = some .shared ∧
    (∀ l ∈ heldLocks s, l.owner = .a → l.extent.overlaps (extentOf [0x10, 1000, 5759, 0, 0, 0, 0, 0] 1) = false) ∧
    (∀ l ∈ heldLocks s, l.owner ≠ .a → l.extent.overlaps (extentOf [0x10, 1000, 5759, 0, 0, 0, 0, 0] 1) = true →
      l.mode = .shared ∧ Mode.shared = .shared) ∧
    (∀ w ∈ s.waiters, w.isWaiting = true → w.lock.owner ≠ .a) ∧
    s.locks[1]? = some ⟨0, .free⟩ ∧ s.locks[0]? = some ⟨9, .held ⟨.b, ⟨1000, 1019⟩, .shared⟩ (.reported none)⟩ :=
  ⟨⟨rfl, rfl, rfl⟩, by decide⟩

theorem witness_AcquireRefusedOrQueued :
    InHand (acquireIn 1000 1019 1 0 State.reset) .a [0x10, 1000, 1019, 1, 0, 0, 0, 0] 0x10 ∧
    (extentOf [0x10, 1000, 999, 1] 1).last < (extentOf [0x10, 1000, 999, 1] 1).first ∧
    modeOf (commandWord [0x10, 1000, 1019, 2] 3) = none ∧
    (modeOf (commandWord [0x10, 1000, 5760, 1] 3) = some .exclusive ∧ 5759 < (extentOf [0x10, 1000, 5760, 1] 1).last) ∧
    overlapsOwn (withLock 0 1 (.held lockA .unreported) State.reset) .a ⟨1019, 1020⟩ = true ∧
    (let s := withLock 0 1 (.held lockA .unreported) State.reset;
      overlapsOwn s .b ⟨1019, 1020⟩ = false ∧
      (conflictsWithHeld s ⟨.b, ⟨1019, 1020⟩, .shared⟩ || barredBy s.waiters ⟨.b, ⟨1019, 1020⟩, .shared⟩) = true ∧
      (∀ w ∈ s.waiters, w.slot ≠ 0) ∧
      (∀ n, n < 8 → ∃ w ∈ (fullSlots s).waiters, w.slot = n)) ∧
    ((conflictsWithHeld fullLocks ⟨.b, ⟨1019, 1020⟩, .shared⟩ || barredBy fullLocks.waiters ⟨.b, ⟨1019, 1020⟩, .shared⟩) =
        false ∧ ∀ e ∈ fullLocks.locks, e.state ≠ .free) :=
  ⟨⟨rfl, rfl, rfl⟩, by decide⟩

/-- A handle command of port A naming entry 15, generation 5, in hand. -/
def handleIn (code : Word) (state : LockState) : State :=
  inHand .a [code, 0xF5, 0, 0, 0, 0, 0, 0]
    ((withLock 15 5 state State.reset).withSettings { Settings.reset with maintenance := .all true })

theorem witness_HandleTestsInOrder :
    InHand (handleIn 0x11 .free) .a [0x11, 0xF5, 0, 0, 0, 0, 0, 0] 0x11 ∧
    InHand (handleIn 0x12 .free) .a [0x12, 0xF5, 0, 0, 0, 0, 0, 0] 0x12 ∧
    InHand (handleIn 0x13 .free) .a [0x13, 0xF5, 0, 0, 0, 0, 0, 0] 0x13 ∧
    handleOf [0x11, 0xF5, 0, 0, 0, 0, 0, 0] = ⟨15, 5⟩ ∧ handleOf [0x11, 0xF4, 0, 0, 0, 0, 0, 0] = ⟨15, 4⟩ ∧
    (∀ state, lockAt (handleIn 0x11 state) 15 = ⟨5, state⟩) ∧
    (handleIn 0x13 .free).settings.maintenance.get .a = true :=
  ⟨⟨rfl, rfl, rfl⟩, ⟨rfl, rfl, rfl⟩, ⟨rfl, rfl, rfl⟩, by decide, by decide, fun _ => rfl, rfl⟩

theorem witness_RenewRestartsTheLease :
    InHand (handleIn 0x11 (.held lockA (.reported none))) .a [0x11, 0xF5, 0, 0, 0, 0, 0, 0] 0x11 ∧
      lockAt (handleIn 0x11 (.held lockA (.reported none))) (handleOf [0x11, 0xF5, 0, 0, 0, 0, 0, 0]).index =
        ⟨(handleOf [0x11, 0xF5, 0, 0, 0, 0, 0, 0]).generation, .held lockA (.reported none)⟩ ∧ lockA.owner = .a :=
  ⟨⟨rfl, rfl, rfl⟩, rfl, rfl⟩

theorem witness_ReleaseFreesTheLock :
    let s := handleIn 0x12 (.held lockA (.reported none));
    let used := s.withRequests [requestA .verify 1019 2 (.active none)];
    InHand s .a [0x12, 0xF5, 0, 0, 0, 0, 0, 0] 0x12 ∧
    lockAt s (handleOf [0x12, 0xF5, 0, 0, 0, 0, 0, 0]).index =
      ⟨(handleOf [0x12, 0xF5, 0, 0, 0, 0, 0, 0]).generation, .held lockA (.reported none)⟩ ∧
    (∃ r ∈ used.requests, r.port = .a ∧ r.onMedium = true ∧ r.extent.overlaps lockA.extent = true) ∧
    (∀ r ∈ s.requests, r.port = .a → r.onMedium = true → r.extent.overlaps lockA.extent = false) :=
  ⟨⟨rfl, rfl, rfl⟩, rfl, by decide, by decide⟩

/-- The one request of a state is served, with a stop asked exactly when one is pending. -/
theorem oneServed_of {s : State} {r : Request} {v : Service} (hr : s.requests = [r]) (hv : s.sequencer.service = some v)
    (hs : serving s.sequencer.state = true) (he : v.entry = 0) (hi : r.index = 0) (hserved : served r = true)
    (hm : stopMatches v r) : OneServed s := by
  refine ⟨⟨by simp [hr], by simp [hr, hi, Config.requestEntries]⟩, by simp [ServicePresent, hv, hs], ?_, ?_⟩
  · simp [hr, hv, hserved, hi, he]
  · intro w q hw hq
    rw [hv] at hw
    obtain rfl := Option.some.inj hw
    simp [findRequest, hr, hi, he] at hq
    exact hq ▸ hm

/-- A state whose sequencer serves a VERIFY of port A, ACTIVE, under a lock of the port in entry 15. -/
def lockedServing (state : SequencerState) (grant : Grant) : State :=
  withLock 15 5 (.held lockA grant) (servingState state (serviceAt 1000 41) (requestA .verify 1000 4 (.active none)))

/-- In each state that serves a request: the ACTIVE request of the lock's owner has a block inside, and is asked to stop at once in
SETTLING, and in SEEKING at its block boundary. -/
theorem witness_LockCeased (grant : Grant) :
    (∀ state, serving state = true → OneServed (lockedServing state grant)) ∧
      requestA .verify 1000 4 (.active none) ∈ (lockedServing .settling grant).requests ∧
      (requestA .verify 1000 4 (.active none)).port = lockA.owner ∧
      (requestA .verify 1000 4 (.active none)).extent.overlaps lockA.extent = true ∧
      (lockedServing .settling grant).sequencer.service = some (serviceAt 1000 41) ∧
      lockAt (lockedServing .settling grant) 15 = ⟨5, .held lockA grant⟩ ∧
      stopsAtOnce (lockedServing .settling grant) = true ∧ stopsAtOnce (lockedServing .searching grant) = true ∧
      stopsAtOnce (lockedServing .formatting grant) = true ∧ stopsAtOnce (lockedServing .seeking grant) = false ∧
      stopsAtOnce ((lockedServing .formatting grant).withDrive ⟨true, false, true, []⟩) = false :=
  ⟨fun _ h => oneServed_of rfl rfl h rfl rfl rfl rfl, List.mem_singleton.2 rfl, rfl, rfl, rfl, rfl, rfl, rfl, rfl, rfl, rfl⟩

theorem witness_ForceReleaseEndsTheLock :
    let s := (handleIn 0x13 (.held lockA .unreported)).withRequests [requestA .verify 1019 1 .ready];
    InHand s .a [0x13, 0xF5, 0, 0, 0, 0, 0, 0] 0x13 ∧ EntriesDistinct s ∧ s.settings.maintenance.get .a = true ∧
    lockAt s (handleOf [0x13, 0xF5, 0, 0, 0, 0, 0, 0]).index =
      ⟨(handleOf [0x13, 0xF5, 0, 0, 0, 0, 0, 0]).generation, .held lockA .unreported⟩ ∧
    (s.withSettings Settings.reset).settings.maintenance.get .a = false :=
  ⟨⟨rfl, rfl, rfl⟩, ⟨by decide, by decide⟩, rfl, rfl, rfl⟩

theorem witness_WithdrawRemovesTheWaiter :
    let w : Waiter := ⟨7, lockA, .waiting none⟩;
    let s := inHand .a [0x14, 7, 0, 0, 0, 0, 0, 0] (State.reset.withWaiters [w]);
    InHand s .a [0x14, 7, 0, 0, 0, 0, 0, 0] 0x14 ∧ 7 < (commandWord [0x14, 8] 1).toNat ∧
    ((commandWord [0x14, 6] 1).toNat ≤ 7 ∧ findWaiter s 6 = none) ∧
    findWaiter s 7 = some w ∧ w.lock.owner = .a ∧ w.lock.owner ≠ .b ∧
    findWaiter (State.reset.withWaiters [⟨7, lockA, .denied⟩]) 7 = some ⟨7, lockA, .denied⟩ :=
  ⟨⟨rfl, rfl, rfl⟩, by decide⟩

theorem slotsDistinct_fullSlots (s : State) : SlotsDistinct (fullSlots s) := by
  constructor
  · show (((List.range 8).map fun n => (⟨n, ⟨.d, ⟨4000, 4000⟩, .shared⟩, .denied⟩ : Waiter)).map Waiter.slot).Nodup
    decide
  · show ∀ w ∈ ((List.range 8).map fun n => (⟨n, ⟨.d, ⟨4000, 4000⟩, .shared⟩, .denied⟩ : Waiter)), w.slot < 8
    decide

theorem witness_OnePassSuffices : SlotsDistinct (fullSlots State.reset) := slotsDistinct_fullSlots _

/-- One entry of each kind. -/
def mixedLocks : State :=
  withLock 0 1 (.held lockA (.reported (some 2))) (withLock 1 2 (.held ⟨.b, ⟨0, 9⟩, .shared⟩ (.reported (some 1)))
    (withLock 2 3 (.held ⟨.c, ⟨0, 9⟩, .shared⟩ .unreported) (withLock 3 4 (.held ⟨.d, ⟨0, 9⟩, .shared⟩ (.reported none))
      (withLock 15 5 (.ended lockA .forced) State.reset))))

theorem witness_LeaseTickLowersTheLeases :
    EntriesDistinct mixedLocks ∧ mixedLocks.locks.length = 16 ∧
      lockAt mixedLocks 0 = ⟨1, .held lockA (.reported (some 2))⟩ ∧
      lockAt mixedLocks 1 = ⟨2, .held ⟨.b, ⟨0, 9⟩, .shared⟩ (.reported (some 1))⟩ ∧
      lockAt mixedLocks 2 = ⟨3, .held ⟨.c, ⟨0, 9⟩, .shared⟩ .unreported⟩ ∧
      lockAt mixedLocks 3 = ⟨4, .held ⟨.d, ⟨0, 9⟩, .shared⟩ (.reported none)⟩ ∧
      lockAt mixedLocks 15 = ⟨5, .ended lockA .forced⟩ ∧ (lockAt mixedLocks 4).state = .free :=
  ⟨⟨by decide, by decide⟩, rfl, rfl, rfl, rfl, rfl, rfl, rfl⟩

theorem witness_LeaseTickCountsTheWaits :
    let s := State.reset.withWaiters [⟨7, lockA, .waiting (some 1)⟩, ⟨0, lockA, .waiting (some 2)⟩];
    SlotsDistinct s ∧ (∀ e ∈ s.locks, e.expiring = false) ∧ (∃ w ∈ s.waiters, w.expiring = true) ∧
      ∀ w ∈ (fullSlots s).waiters, w.expiring = false :=
  ⟨⟨by decide, by decide⟩, by decide⟩

theorem witness_ExpiryAndDenialOnTheirOwn :
    EntriesDistinct mixedLocks ∧ lockAt mixedLocks (1 : Fin 16) = ⟨2, .held ⟨.b, ⟨0, 9⟩, .shared⟩ (.reported (some 1))⟩ ∧
      (lockAt mixedLocks (0 : Fin 16)).expiring = false ∧
      SlotsDistinct (State.reset.withWaiters [⟨7, lockA, .waiting (some 1)⟩]) ∧
      findWaiter (State.reset.withWaiters [⟨7, lockA, .waiting (some 1)⟩]) (7 : Fin 8) = some ⟨7, lockA, .waiting (some 1)⟩ ∧
      (∀ w, findWaiter State.reset (7 : Fin 8) = some w → w.expiring = false) :=
  ⟨⟨by decide, by decide⟩, rfl, rfl, ⟨by decide, by decide⟩, rfl, fun _ h => by cases h⟩

/-- Port A's pending-record list with one item. -/
def pendingA (item : OwnerRef) (s : State) : State := s.withPendingRecords (s.pendingRecords.set .a [item])

theorem witness_PostingReportsTheOldestItem :
    (State.reset.completions.get .a).length < 8 ∧ 8 ≤ (fullQueues.completions.get .a).length ∧
    (pendingA (.request 0) State.reset).pendingRecords.get .a = .request 0 :: [] ∧
    findRequest (State.reset.withRequests [requestA .verify 0 1 (.held .ok none)]) 0 =
      some (requestA .verify 0 1 (.held .ok none)) ∧
    lockAt (pendingA (.lock 2) mixedLocks) 2 = ⟨3, .held ⟨.c, ⟨0, 9⟩, .shared⟩ .unreported⟩ ∧
    lockAt (pendingA (.lock 15) mixedLocks) 15 = ⟨5, .ended lockA .forced⟩ ∧
    findWaiter (fullSlots (pendingA (.waiter 7) State.reset)) 7 = some ⟨7, ⟨.d, ⟨4000, 4000⟩, .shared⟩, .denied⟩ :=
  ⟨by decide, by decide, rfl, rfl, rfl, rfl, rfl⟩

theorem witness_WatchSlotsAreSetAndEmptied :
    let full := State.reset.withWatches (.all [some ⟨0, 1⟩, some ⟨0, 1⟩, some ⟨0, 1⟩, some ⟨0, 1⟩]);
    let three := State.reset.withWatches (.all [some ⟨0, 1⟩, some ⟨0, 1⟩, some ⟨0, 1⟩, none]);
    InHand (inHand .a [0x20, 0, 5759, 0, 0, 0, 0, 0] three) .a [0x20, 0, 5759, 0, 0, 0, 0, 0] 0x20 ∧
    InHand (inHand .a [0x21, 3, 0, 0, 0, 0, 0, 0] full) .a [0x21, 3, 0, 0, 0, 0, 0, 0] 0x21 ∧
    (extentOf [0x20, 1, 0] 1).last < (extentOf [0x20, 1, 0] 1).first ∧ 5759 < (extentOf [0x20, 0, 5760] 1).last ∧
    (∀ w ∈ full.watches.get .a, w ≠ none) ∧ (three.watches.get .a)[3]? = some none ∧
    (∀ m, m < 3 → (three.watches.get .a)[m]? ≠ some none) ∧ 3 < (commandWord [0x21, 4] 1).toNat ∧
    (full.watches.get .a)[3]? = some (some ⟨0, 1⟩) :=
  ⟨⟨rfl, rfl, rfl⟩, ⟨rfl, rfl, rfl⟩, by decide⟩

theorem witness_WriteReportOffersNotices :
    QueuesBounded (fullQueues.withWriteReports [⟨.a, ⟨0, 0⟩, .formatted⟩]) ∧
      (fullQueues.withWriteReports [⟨.a, ⟨0, 0⟩, .formatted⟩]).writeReports = ⟨.a, ⟨0, 0⟩, .formatted⟩ :: [] ∧
      State.reset.writeReports = [] :=
  ⟨queuesBounded_fullQueues, rfl, rfl⟩

theorem witness_TokenIsClaimed :
    InHand (inHand .a [0x30, 0, 0, 0, 0, 0, 0, 0] State.reset) .a [0x30, 0, 0, 0, 0, 0, 0, 0] 0x30 ∧ State.reset.token = none ∧
      (State.reset.withToken (some .a)).token = some .a ∧ (State.reset.withToken (some .d)).token = some .d :=
  ⟨⟨rfl, rfl, rfl⟩, rfl, rfl, rfl⟩

theorem witness_TokenIsReleased :
    InHand (inHand .a [0x31, 0, 0, 0, 0, 0, 0, 0] State.reset) .a [0x31, 0, 0, 0, 0, 0, 0, 0] 0x31 ∧
      (State.reset.withToken (some .a)).token = some .a ∧ State.reset.token ≠ some .a ∧ State.reset.initLine.get .a = false :=
  ⟨⟨rfl, rfl, rfl⟩, rfl, by decide, rfl⟩

theorem witness_SettingIsSet :
    InHand (inHand .a [0x32, 0, 8, 0, 0, 0, 0, 0] (State.reset.withToken (some .a))) .a [0x32, 0, 8, 0, 0, 0, 0, 0] 0x32 ∧
      itemOf (commandWord [0x32, 13] 1) = none ∧ itemOf (commandWord [0x32, 12] 1) = some .hostBusTimeout ∧
      Item.hostBusTimeout.inRange 256 = false ∧ Item.settleTime.inRange 0 = false ∧
      32 < quotaSum (Settings.reset.quota.set .a 9) ∧ quotaSum (Settings.reset.quota.set .a 8) ≤ 32 ∧
      (Item.quota .a).inRange 8 = true :=
  ⟨⟨rfl, rfl, rfl⟩, by decide⟩

theorem witness_SettingsAreReadAndUnknownRefused :
    InHand (inHand .a [0x33, 0, 0, 0, 0, 0, 0, 0] State.reset) .a [0x33, 0, 0, 0, 0, 0, 0, 0] 0x33 ∧
      InHand (inHand .a [0xFF00, 0, 0, 0, 0, 0, 0, 0] State.reset) .a [0xFF00, 0, 0, 0, 0, 0, 0, 0] 0x00 :=
  ⟨⟨rfl, rfl, rfl⟩, ⟨rfl, rfl, rfl⟩⟩

/-- HOLDING with the fault-hold timer running and one READY request. -/
def holdingState : State :=
  (State.reset.withRequests [requestA .verify 1000 4 .ready]).withSequencer
    { Sequencer.reset with state := .holding, faultHoldTimer := some 4 }

theorem witness_HoldingAndOfflineAreLeft :
    State.reset.drive.ready = false ∧ State.reset.sequencer.state = .offline ∧ EntriesDistinct holdingState ∧
      holdingState.sequencer.state = .holding ∧ holdingState.sequencer.faultHoldTimer.isSome = true :=
  ⟨rfl, rfl, ⟨by decide, by decide⟩, rfl, rfl⟩

/-- A VERIFY of blocks 1000 to 1003, ACTIVE. -/
def verifyA : Request := requestA .verify 1000 4 (.active none)

/-- A READ and a WRITE of the same blocks, ACTIVE. -/
def readA : Request := requestA (.read 0) 1000 4 (.active none)
/-- See `readA`. -/
def writeA : Request := requestA (.write 0) 1000 4 (.active none)

theorem serves_servingState (state : SequencerState) (v : Service) (r : Request) (h : v.entry = 0) (k : r.index = 0) :
    Serves (servingState state v r) state v r := by
  refine ⟨rfl, rfl, ?_⟩
  show List.find? _ [r] = some r
  simp [h, k]

theorem witness_FallingReadyHolds :
    (State.reset.withDrive ⟨true, false, false, []⟩).sequencer.state = .offline ∧ idleState.sequencer.state = .idle ∧
      idleState.drive.ready = true ∧ (servingState .transferring (serviceAt 1000 41) readA).drive.ready = true ∧
      serving .transferring = true ∧
      Serves (servingState .transferring (serviceAt 1000 41) readA) .transferring (serviceAt 1000 41) readA ∧
      served readA = true ∧ served { readA with state := .orphaned } = true :=
  ⟨rfl, rfl, rfl, rfl, rfl, serves_servingState _ _ _ rfl rfl, rfl, rfl⟩

theorem witness_PulsesAreTaken :
    State.reset.drive.ready = false ∧ idleState.drive.ready = true ∧ idleState.sequencer.state = .idle ∧
      Serves (servingState .searching (serviceAt 1000 41) verifyA) .searching (serviceAt 1000 41) verifyA ∧
      (serviceAt 1000 41).indexPasses = 0 ∧ served verifyA = true ∧
      Serves (servingState .searching { serviceAt 1000 41 with indexPasses := 1 } verifyA) .searching
        { serviceAt 1000 41 with indexPasses := 1 } verifyA ∧
      (serviceAt 1000 41).phase = .waitIndex ∧
      (∀ r : Request, r.index = 0 →
        Serves (servingState .transferring (serviceAt 1000 41) r) .transferring (serviceAt 1000 41) r) ∧
      writeA.operation = .write 0 ∧ delivers readA.operation = true ∧ verifyA.operation = .verify ∧
      (∀ phase, (servingState .formatting { serviceAt 996 41 with phase := phase } verifyA).drive.ready = true ∧
        Serves (servingState .formatting { serviceAt 996 41 with phase := phase } verifyA) .formatting
          { serviceAt 996 41 with phase := phase } verifyA) :=
  ⟨rfl, rfl, rfl, serves_servingState _ _ _ rfl rfl, rfl, rfl, serves_servingState _ _ _ rfl rfl, rfl,
    fun _ h => serves_servingState _ _ _ rfl h, rfl, rfl, rfl, fun _ => ⟨rfl, serves_servingState _ _ _ rfl rfl⟩⟩

/-- A FORMAT TRACK of cylinder 41, head 1, ACTIVE, and its service record in a phase with a number of written blocks. -/
def formatA : Request := requestA (.format 0x801 0xE5) 996 12 (.active none)
/-- See `formatA`. -/
def formatService (phase : FormatPhase) (written : Nat) : Service := { serviceAt 996 41 with phase := phase, written := written }

theorem witness_FormatTrackWritesAndFinishes :
    (servingState .formatting (formatService .begun 0) formatA).drive.ready = true ∧
      Serves (servingState .formatting (formatService .begun 0) formatA) .formatting (formatService .begun 0) formatA ∧
      Serves (servingState .formatting (formatService .gap 11) formatA) .formatting (formatService .gap 11) formatA ∧
      Serves (servingState .formatting (formatService .writing 11) formatA) .formatting (formatService .writing 11) formatA ∧
      Serves (servingState .formatting (formatService .writing 12) formatA) .formatting (formatService .writing 12) formatA ∧
      formatA.operation = .format 0x801 0xE5 ∧ served formatA = true :=
  ⟨rfl, serves_servingState _ _ _ rfl rfl, serves_servingState _ _ _ rfl rfl, serves_servingState _ _ _ rfl rfl,
    serves_servingState _ _ _ rfl rfl, rfl, rfl⟩

/-- The service record of block 1000 with a header being read. -/
def readingService : Service := { serviceAt 1000 41 with headerReading := true }

theorem witness_HeadersOffTheTarget :
    Serves (servingState .searching readingService verifyA) .searching readingService verifyA ∧ served verifyA = true ∧
      readHeader [41, 1, 4, 0, 0, 0] = none ∧
      readHeader (withCheck [41, 1, 11, 0]) = some ⟨41, 1, 11, false⟩ ∧ 11 ≠ readingService.current % 12 ∧
      readHeader (withCheck [40, 1, 4, 0]) = some ⟨40, 1, 4, false⟩ ∧
      readHeader (withCheck [41, 1, 12, 0]) = some ⟨41, 1, 12, false⟩ ∧
      (servingState .searching readingService verifyA).sequencer.believed = some 41 ∧
      (servingState .searching readingService verifyA).sequencer.head = 1 ∧ readingService.recovery = .unused :=
  ⟨serves_servingState _ _ _ rfl rfl, rfl, by decide⟩

/-- A state with its buffers given. -/
def withPool (l : List (Option Buffer)) (s : State) : State := s.withBuffers l

theorem witness_HeaderAtTheTarget :
    (∀ r : Request, r.index = 0 → Serves (servingState .searching readingService r) .searching readingService r) ∧
      readHeader header1000 = some ⟨41, 1, 4, false⟩ ∧ readHeader (withCheck [41, 1, 4, 1]) = some ⟨41, 1, 4, true⟩ ∧
      4 = readingService.current % 12 ∧ served verifyA = true ∧ served writeA = true ∧
      (boundBuffers (withPool [some ⟨0, 998, .filling⟩, some ⟨0, 999, .filling⟩, none] State.reset) 0).length = 2 ∧
      (withPool [some ⟨0, 998, .filling⟩, some ⟨0, 999, .filling⟩, none] State.reset).buffers[2]? = some none ∧
      3 ≤ (boundBuffers (withPool (List.replicate 3 (some ⟨0, 998, .filling⟩)) State.reset) 0).length ∧
      loadedBuffer (withPool [none, some ⟨0, 1000, .loaded [1]⟩] State.reset) 0 1000 = some (1, [1]) :=
  ⟨fun _ h => serves_servingState _ _ _ rfl h, by decide⟩

theorem dataFieldGood_zeroField : dataFieldGood zeroField = true := by decide +kernel

theorem witness_BlockFinishedGoesOn :
    (∀ r : Request, r.index = 0 →
      Serves (servingState .transferring { serviceAt 1000 41 with buffer := some 5 } r) .transferring
        { serviceAt 1000 41 with buffer := some 5 } r) ∧
      (serviceAt 1000 41).current ≠ readA.last ∧ (serviceAt 1000 41).stopAsked = false ∧
      bufferAt (withPool [none, none, none, none, none, some ⟨0, 1000, .filling⟩] State.reset) 5 = some ⟨0, 1000, .filling⟩ ∧
      dataFieldGood zeroField = true ∧
      OneServed (servingState .transferring { serviceAt 1000 41 with buffer := some 5 } readA) ∧
      OneServed (servingState .transferring { serviceAt 1000 41 with buffer := some 5 } writeA) :=
  ⟨fun _ h => serves_servingState _ _ _ rfl h, by decide, rfl, rfl, dataFieldGood_zeroField,
    oneServed_of rfl rfl rfl rfl rfl rfl rfl, oneServed_of rfl rfl rfl rfl rfl rfl rfl⟩

theorem witness_RequestEndsAtABlockBoundary :
    (∀ v r, v.entry = 0 → r.index = 0 → Serves (servingState .transferring v r) .transferring v r) ∧
      (serviceAt 1003 41).current = readA.last ∧ served readA = true ∧
      { serviceAt 1000 41 with stopAsked := true }.current ≠ readA.last ∧
      { readA with state := .active (some .cancelled) }.state = .active (some .cancelled) ∧
      dataFieldGood zeroField = true ∧ dataFieldGood [] = false :=
  ⟨fun _ _ h k => serves_servingState _ _ _ h k, rfl, rfl, by decide, rfl, dataFieldGood_zeroField, rfl⟩

theorem witness_DataCheckIsRetried :
    Serves (servingState .transferring { serviceAt 1000 41 with retriesSpent := 2 } readA) .transferring
        { serviceAt 1000 41 with retriesSpent := 2 } readA ∧
      Serves (servingState .transferring { serviceAt 1000 41 with retriesSpent := 1 } verifyA) .transferring
        { serviceAt 1000 41 with retriesSpent := 1 } verifyA ∧
      served readA = true ∧ delivers readA.operation = true ∧ dataFieldGood [] = false ∧
      (servingState .transferring (serviceAt 1000 41) readA).drive.ready = true ∧ Settings.reset.retryCount = 2 :=
  ⟨serves_servingState _ _ _ rfl rfl, serves_servingState _ _ _ rfl rfl, rfl, rfl, rfl, rfl, rfl⟩

/-- SEEKING with a SEEK to cylinder 41 outstanding. -/
def seekingState (v : Service) (r : Request) : State :=
  (servingState .seeking v r).modifySequencer fun q => { q with outstanding := some (.seek 41), positioningTimer := some 1000 }

theorem serves_seekingState (v : Service) (r : Request) (h : v.entry = 0) (k : r.index = 0) :
    Serves (seekingState v r) .seeking v r :=
  ⟨rfl, rfl, (serves_servingState .seeking v r h k).entry⟩

theorem witness_SeekDoneArrives :
    idleState.sequencer.outstanding = none ∧
      (seekingState (serviceAt 1000 41) verifyA).sequencer.outstanding = some (.seek 41) ∧
      Serves (seekingState (serviceAt 1000 41) verifyA) .seeking (serviceAt 1000 41) verifyA ∧
      Serves (seekingState { serviceAt 1000 0 with recovery := .recalibrateStep } verifyA) .seeking
        { serviceAt 1000 0 with recovery := .recalibrateStep } verifyA ∧
      Serves (seekingState { serviceAt 1000 41 with stopAsked := true } { verifyA with state := .orphaned }) .seeking
        { serviceAt 1000 41 with stopAsked := true } { verifyA with state := .orphaned } :=
  ⟨rfl, rfl, serves_seekingState _ _ rfl rfl, serves_seekingState _ _ rfl rfl, serves_seekingState _ _ rfl rfl⟩

theorem witness_PositioningLimitIsHandled :
    (seekingState (serviceAt 1000 41) verifyA).sequencer.positioningTimer = some 1000 ∧
      Serves (seekingState (serviceAt 1000 41) verifyA) .seeking (serviceAt 1000 41) verifyA ∧ served verifyA = true ∧
      Serves (seekingState { serviceAt 1000 41 with recovery := .used } verifyA) .seeking
        { serviceAt 1000 41 with recovery := .used } verifyA ∧
      (let s := issueRecalibrate .recalibrating holdingState;
        s.sequencer.positioningTimer = some 2000 ∧ s.sequencer.outstanding = some .recalibrate ∧
          s.sequencer.state = .recalibrating) ∧ EntriesDistinct (issueRecalibrate .recalibrating holdingState) :=
  ⟨rfl, serves_seekingState _ _ rfl rfl, rfl, serves_seekingState _ _ rfl rfl, ⟨rfl, rfl, rfl⟩, ⟨by decide, by decide⟩⟩

theorem witness_SettlingEnds :
    (∀ r : Request, r.index = 0 →
      Serves (enterSettling (servingState .seeking (serviceAt 996 41) r)) .settling (serviceAt 996 41) r) ∧
      (enterSettling (servingState .seeking (serviceAt 996 41) formatA)).sequencer.settleTimer = some 4 ∧
      formatA.operation.isFormat = true ∧ verifyA.operation.isFormat = false ∧ served formatA = true ∧
      State.reset.drive.writeProtect = false ∧ (senseWriteProtect true State.reset).drive.writeProtect = true :=
  ⟨fun r h => ⟨rfl, rfl, (serves_servingState .seeking (serviceAt 996 41) r rfl h).entry⟩, rfl, rfl, rfl, rfl, rfl, rfl⟩

theorem witness_SchedulerChoosesByItsRules :
    idleState.sequencer.believed = some 41 ∧
      chooseRequest (idleState.withRequests [{ requestA .verify 1020 1 .ready with passCount := 16 }, requestA .verify 984 1 .ready]) =
        some { requestA .verify 1020 1 .ready with passCount := 16 } ∧
      chooseRequest (idleState.withRequests [requestA .verify 985 1 .ready, requestA .verify 984 1 .ready]) =
        some (requestA .verify 984 1 .ready) ∧
      chooseRequest (idleState.withRequests [requestA .verify 0 1 .ready, requestA .verify 5759 1 .ready]) =
        some (requestA .verify 5759 1 .ready) := by decide

/-- A WRITE and a FORMAT TRACK of the believed cylinder, READY, with the sequencer IDLE. -/
theorem witness_HandOverStartsTheRequest :
    let write := requestA (.write 0) 1000 4 .ready;
    let format := requestA (.format 0x801 0xE5) 996 12 .ready;
    idleState.sequencer.believed = some 41 ∧ write.operation.isFormat = false ∧ write.operation = .write 0 ∧
      OneServed (idleState.withRequests [write]) ∧ (idleState.withRequests [write]).sequencer.state = .idle ∧
      write ∈ (idleState.withRequests [write]).requests ∧
      ((idleState.withRequests [write]).engines.get write.port).current = none ∧
      (idleState.withRequests [write]).initLine.get write.port = false ∧
      EntriesDistinct (idleState.withRequests [format]) ∧ format ∈ (idleState.withRequests [format]).requests ∧
      format.operation.isFormat = true ∧ cylinderOf format.first = 41 ∧
      (senseWriteProtect true (idleState.withRequests [format])).drive.writeProtect = true := by
  refine ⟨rfl, rfl, rfl, ⟨⟨by decide, by decide⟩, rfl, by decide, ?_⟩, rfl, List.mem_singleton.2 rfl, rfl, rfl,
    ⟨by decide, by decide⟩, List.mem_singleton.2 rfl, rfl, by decide, rfl⟩
  intro v r hv
  cases hv

/-- The example of 07, 7.8, event 1, with all six buffers FREE: the WRITE of blocks 1000 to 1003 has three buffers LOADING, the
prefetch stands at 1003, and the engine requests its bus for the first (R130, R133). -/
theorem test_settle_prefetches_the_write :
    (fun t : State => ((t.engines.get .a).prefetch, (t.engines.get .a).current, (t.engines.get .a).state, t.buffers))
        (settle (handOver (requestA (.write 0) 1000 4 .ready) (idleState.withRequests [requestA (.write 0) 1000 4 .ready]))) =
      (some ⟨0, 1003⟩, some 0, .requesting,
        [some ⟨0, 1000, .loading []⟩, some ⟨0, 1001, .loading []⟩, some ⟨0, 1002, .loading []⟩, none, none, none]) := by
  decide

theorem witness_BusGrantMovesOneBurst :
    ((draining 240 .requesting).engines.get .a).state = .requesting ∧
      ((draining 240 .requesting).engines.get .a).current = some 1 ∧
      bufferAt (draining 240 .requesting) 1 = some ⟨0, 1001, .draining 240 (List.replicate 256 0x55AA)⟩ ∧
      (findRequest (draining 240 .requesting) 0).isSome = true ∧ ((draining 240 .moving).engines.get .a).state ≠ .requesting :=
  ⟨rfl, rfl, rfl, rfl, by decide⟩

theorem witness_EnableAndBaseWordsHold :
    State.reset.initLine.get .d = false ∧
      ((draining 240 .requesting).engines.get .a).state = .requesting ∧
      ((draining 240 .requesting).engines.get .a).current = some 1 ∧
      bufferAt (draining 240 .requesting) 1 = some ⟨0, 1001, .draining 240 (List.replicate 256 0x55AA)⟩ ∧
      (findRequest (draining 240 .requesting) 0).isSome = true :=
  ⟨rfl, rfl, rfl, rfl, rfl⟩

/-- A WRITE's buffer being loaded by port A's engine. -/
def loading (words : Nat) : State :=
  (withPool [some ⟨0, 1000, .loading (List.replicate words 0)⟩]
    (servingState .searching (serviceAt 1000 41) writeA)).modifyEngine .a fun e => { e with state := .moving, current := some 0 }

/-- A burst of port A's engine withdrawn, its buffer FREE. -/
def withdrawnState : State :=
  (servingState .searching (serviceAt 1000 41) writeA).modifyEngine .a fun e =>
    { e with state := .moving, current := some 1, withdrawn := true }

theorem witness_BurstsMoveTheBuffer :
    (((draining 224 .moving).engines.get .a).state = .moving ∧ ((draining 224 .moving).engines.get .a).withdrawn = false ∧
      ((draining 224 .moving).engines.get .a).current = some 1 ∧
      bufferAt (draining 224 .moving) 1 = some ⟨0, 1001, .draining 224 (List.replicate 256 0x55AA)⟩ ∧ 224 + 16 < 256 ∧
      (draining 224 .moving).sequencer.state ≠ .idle ∧
      bufferAt (loading 224) 0 = some ⟨0, 1000, .loading (List.replicate 224 0)⟩ ∧
      bufferAt (loading 240) 0 = some ⟨0, 1000, .loading (List.replicate 240 0)⟩ ∧
      ((loading 240).engines.get .a).current = some 0 ∧
      (findRequest (draining 240 .moving) 0).map Request.state = some (.draining .ok none) ∧
      (withdrawnState.engines.get .a).state = .moving ∧ (withdrawnState.engines.get .a).withdrawn = true ∧
      bufferAt withdrawnState 1 = none ∧ withdrawnState.sequencer.state ≠ .idle) ∧
      OneServed (loading 240) ∧ OneServed withdrawnState :=
  ⟨by decide, oneServed_of rfl rfl rfl rfl rfl rfl rfl, oneServed_of rfl rfl rfl rfl rfl rfl rfl⟩

/-- The end of a withdrawn burst: the engine clears withdrawn, and the FREE buffer stays FREE (R136). -/
theorem test_burstEnd_withdrawn :
    after (.burstEnd .a (Vector.replicate 16 1)) withdrawnState
      (fun t => (t.engines.get .a, bufferAt t 1)) =
      some ({ Engine.reset with state := .idle }, none) := by decide

/-- The stalled bus of 07, 7.9: a READ in a state of the sequencer, its first block part delivered and its second FULL. -/
def stalled (state : SequencerState) : State :=
  (withPool [some ⟨0, 1000, .draining 48 (List.replicate 256 0)⟩, some ⟨0, 1001, .full (List.replicate 256 0)⟩, none, none,
      none, none] (servingState state (serviceAt 1002 41) { readA with mediumCount := 2 })).modifyEngine .a fun e =>
    { e with state := .requesting, current := some 0, timer := some 50 }

theorem witness_HostBusTimeoutGivesUp :
    ((draining 16 .requesting).engines.get .a).state = .requesting ∧
      ((draining 16 .requesting).engines.get .a).timer = some 50 ∧
      ((draining 16 .requesting).engines.get .a).current = some 1 ∧
      (bufferAt (draining 16 .requesting) 1).isSome = true ∧
      (findRequest (draining 16 .requesting) 0).map Request.state = some (.draining .ok none) ∧
      (∀ state, Serves (stalled state) state (serviceAt 1002 41) { readA with mediumCount := 2 }) ∧
      ((stalled .searching).engines.get .a).state = .requesting ∧ ((stalled .searching).engines.get .a).current = some 0 ∧
      ((stalled .searching).engines.get .a).timer = some 50 ∧ (bufferAt (stalled .searching) 0).isSome = true ∧
      (∀ state, serving state = true → OneServed (stalled state)) :=
  ⟨rfl, rfl, rfl, rfl, rfl, fun _ => ⟨rfl, rfl, rfl⟩, rfl, rfl, rfl, rfl,
    fun _ h => oneServed_of rfl rfl h rfl rfl rfl rfl⟩

/-- The table of 07, 7.9: the timeout in SEARCHING frees every buffer of the READ and ends it HELD with HOST BUS TIMEOUT and 0 blocks
done. -/
theorem test_hostBusTimeout_in_searching :
    after (.hostBusTimeout .a) (stalled .searching)
      (fun t => (t.requests.map Request.state, t.requests.map Request.blocksDone, t.buffers, t.sequencer.state)) =
      some ([.held .hostBusTimeout none], [0], List.replicate 6 none, .idle) := by decide

theorem step_reset : step State.reset = .next State.reset := rfl

theorem witness_LocksStayCompatible : LocksCompatible State.reset ∧ step State.reset = .next State.reset := by
  refine ⟨?_, rfl⟩
  have h : ∀ i x, (lockAt State.reset i).heldLock ≠ some x := by
    intro i x
    by_cases hi : i < 16
    · interval_cases i <;> exact fun k => by cases k
    · have : lockAt State.reset i = ⟨0, .free⟩ := by
        rw [lockAt, List.getD_eq_getElem?_getD, List.getElem?_eq_none (Nat.le_of_not_lt hi)]
        rfl
      rw [this]
      exact fun k => by cases k
  exact fun i j x y _ hx _ => absurd hx (h i x)

theorem witness_BuffersStayShared : BuffersShared State.reset ∧ step State.reset = .next State.reset :=
  ⟨⟨rfl, fun _ => Nat.zero_le 3⟩, rfl⟩

theorem witness_OneRequestIsServed :
    OneServed (servingState .transferring (serviceAt 1000 41) verifyA) ∧
      step (servingState .transferring (serviceAt 1000 41) verifyA) =
        .next (servingState .transferring (serviceAt 1000 41) verifyA) := by
  refine ⟨⟨⟨by decide, by decide⟩, rfl, by decide, ?_⟩, rfl⟩
  intro v r hv hr
  have hv' : some (serviceAt 1000 41) = some v := hv
  obtain rfl := Option.some.inj hv'
  have hr' : some verifyA = some r := hr
  obtain rfl := Option.some.inj hr'
  rfl

theorem witness_IdleLeavesNoReadyRequest : WorkConserving idleState ∧ step idleState = .next idleState :=
  ⟨⟨fun _ => rfl, fun _ => rfl⟩, rfl⟩

theorem witness_GrantableWaitersAreGranted :
    NoneLeftGrantable (fullSlots State.reset) ∧ step (fullSlots State.reset) = .next (fullSlots State.reset) :=
  ⟨⟨slotsDistinct_fullSlots _, by decide⟩, rfl⟩

theorem witness_RangesAreKept :
    QueuesBounded fullQueues ∧ SettingsInRange fullQueues ∧ LockTableShaped fullQueues ∧ RotationSound idleState ∧
      step fullQueues = .next fullQueues :=
  ⟨queuesBounded_fullQueues, by unfold SettingsInRange; decide, ⟨by decide, by decide⟩,
    ⟨fun b h => by cases h; decide, by decide⟩, rfl⟩

end Sys2Proof.Tests
end

section
/-! The interrupt line of a port (R152): the conditions that assert it, and its negation by a port reset and by power-on reset. Both
resets negate it by clearing the enables of the port (R180). -/

namespace Sys2Proof.Machine

open Sys2Proof.Safety

/-! ### The conditions and the line -/

theorem completionCondition_iff (s : State) (p : Port) :
    completionCondition s p = true ↔ 1 ≤ (s.completions.get p).length := decide_eq_true_iff

theorem noticeCondition_iff (s : State) (p : Port) :
    noticeCondition s p = true ↔ (s.notices.get p).queue ≠ [] ∨ (s.notices.get p).lost = true := by
  rw [noticeCondition, Bool.or_eq_true, decide_eq_true_iff, Nat.one_le_iff_ne_zero, ne_eq, List.length_eq_zero_iff]

theorem interruptLine_iff (s : State) (p : Port) :
    interruptLine s p = true ↔
      ((s.windows.get p).responseReady = true ∧ (s.enables.get p).response = true) ∨
      (1 ≤ (s.completions.get p).length ∧ (s.enables.get p).completion = true) ∨
      (((s.notices.get p).queue ≠ [] ∨ (s.notices.get p).lost = true) ∧ (s.enables.get p).notice = true) := by
  simp only [interruptLine, Bool.or_eq_true, Bool.and_eq_true, completionCondition_iff, noticeCondition_iff,
    responseCondition, or_assoc]

/-- No condition asserts the line of a port whose enables are clear. -/
theorem interruptLine_of_enables_clear {s : State} {p : Port} (h : s.enables.get p = ⟨false, false, false⟩) :
    interruptLine s p = false := by
  simp [interruptLine, h]

/-! ### The enables after a reset -/

theorem enables_of_locksOnly {s t : State} (h : LocksOnly s t) : t.enables = s.enables := by
  unfold LocksOnly at h
  exact (congrArg State.enables h).trans rfl

/-- The Request Table, the locks and what the reset makes due touch no enable; the port's own state clears them (R180, step 6). -/
theorem portReset_enables (p : Port) (s : State) : (portReset p s).enables.get p = ⟨false, false, false⟩ := by
  have h : (portReset p s).enables = (resetPortState p (resetRequests p s)).enables :=
    (settle_workOnly _).enables.trans (enables_of_locksOnly (reexamine_locksOnly _))
  rw [h]
  exact PortMap.get_set_same _ p _

theorem riseReady_workOnly (s : State) : WorkOnly s (riseReady s) := by
  have rise := modifyDrive_workOnly s fun d => { d with ready := true }
  have recalibrate := workOnly_trans rise (workOnly_trans
    (modifySequencer_workOnly _ fun q => { q with faultHoldTimer := none }) (issueRecalibrate_workOnly .recalibrating _))
  unfold riseReady
  dsimp only
  split
  · exact recalibrate
  · exact recalibrate
  · exact rise

/-- Power-on reset leaves the reset state with the waiting commands and the INIT lines put in, but for the work in progress that
WRITE PROTECT and an asserted READY set. -/
theorem exec_powerOnReset_workOnly (ready writeProtect a b c d : Bool) (s : State) :
    ∃ t, exec (.powerOnReset ready writeProtect a b c d) s = .next t ∧
      WorkOnly ((State.reset.withPending s.pending).withInitLine ⟨a, b, c, d⟩) t := by
  refine ⟨_, rfl, ?_⟩
  have sensed := senseWriteProtect_workOnly writeProtect ((State.reset.withPending s.pending).withInitLine ⟨a, b, c, d⟩)
  cases ready with
  | false => exact sensed
  | true => exact workOnly_trans sensed (riseReady_workOnly _)

/-! ### The commands that reset a port -/

theorem exec_reset_of_free {p : Port} {s : State} (h : s.initLine.get p = false) (value : Word) :
    exec (.reset p value) s = .next (portReset p s) :=
  congrArg _ (windowWrite_of_free h (portReset p))

theorem exec_initAsserted_of_free {p : Port} {s : State} (h : s.initLine.get p = false) :
    exec (.initAsserted p) s = .next (portReset p (s.withInitLine (s.initLine.set p true))) := by
  show execInitAsserted p s = _
  simp [execInitAsserted, h]

theorem portReset_interruptLine (p : Port) (s : State) : interruptLine (portReset p s) p = false :=
  interruptLine_of_enables_clear (portReset_enables p s)

theorem exec_powerOnReset_interruptLine (p : Port) (ready writeProtect a b c d : Bool) (s : State) :
    ∃ t, exec (.powerOnReset ready writeProtect a b c d) s = .next t ∧ interruptLine t p = false := by
  obtain ⟨t, next, work⟩ := exec_powerOnReset_workOnly ready writeProtect a b c d s
  refine ⟨t, next, interruptLine_of_enables_clear ?_⟩
  rw [work.enables]
  cases p <;> rfl

/-- Settles O12: the line is its three enabled conditions, and each reset clears the port's enables. -/
theorem interruptLineFollowsTheConditions : Obligations.InterruptLineFollowsTheConditions :=
  ⟨fun p s => interruptLine_iff s p,
    fun p value _ free =>
      ⟨⟨_, exec_reset_of_free free value, portReset_interruptLine p _⟩,
        ⟨_, exec_initAsserted_of_free free, portReset_interruptLine p _⟩⟩,
    exec_powerOnReset_interruptLine⟩

end Sys2Proof.Machine
end

section
/-! The configuration token: CLAIM TOKEN and RELEASE TOKEN by the token holder as it stands (R165, R166), and the port reset of the
holder, which frees the token (R180, step 8). -/

namespace Sys2Proof.Machine

open Sys2Proof.Safety

/-! ### What the Shared Settings decide -/

theorem decideClaimToken_of_unheld {s : State} (h : s.token = none) (p : Port) :
    decideClaimToken p s = ⟨.done, s.withToken (some p)⟩ := by
  simp [decideClaimToken, h]

theorem decideClaimToken_of_holder {p : Port} {s : State} (h : s.token = some p) : decideClaimToken p s = ⟨.done, s⟩ := by
  simp [decideClaimToken, h]

theorem decideClaimToken_of_other {p holder : Port} {s : State} (h : s.token = some holder) (other : holder ≠ p) :
    decideClaimToken p s = refuse (.tokenHeld holder) s := by
  simp [decideClaimToken, h, other]

theorem decideReleaseToken_of_holder {p : Port} {s : State} (h : s.token = some p) :
    decideReleaseToken p s = ⟨.done, s.withToken none⟩ := if_pos h

theorem decideReleaseToken_of_not_holder {p : Port} {s : State} (h : s.token ≠ some p) :
    decideReleaseToken p s = refuse .noToken s := if_neg h

/-! ### The commands in hand -/

/-- A CLAIM TOKEN in hand is answered with what the Shared Settings decide of it. -/
theorem exec_claimToken_inHand {p : Port} {s : State} {command : List Word} (h : InHand s p command 0x30) {r : Response}
    {u : State} (decided : decideClaimToken p s = ⟨r, u⟩) :
    exec (.claimToken p) s = .next (postResponse p (commandCode command) r u) := by
  have ⟨_, code, _⟩ := h
  show execClaimToken p s = _
  rw [execClaimToken, takeCommand_inHand h rfl, decided, code]

/-- A RELEASE TOKEN in hand is answered with what the Shared Settings decide of it. -/
theorem exec_releaseToken_inHand {p : Port} {s : State} {command : List Word} (h : InHand s p command 0x31) {r : Response}
    {u : State} (decided : decideReleaseToken p s = ⟨r, u⟩) :
    exec (.releaseToken p) s = .next (postResponse p (commandCode command) r u) := by
  have ⟨_, code, _⟩ := h
  show execReleaseToken p s = _
  rw [execReleaseToken, takeCommand_inHand h rfl, decided, code]

/-- A command answered on the state with the token replaced changes the token and the window of its port alone. -/
theorem answered_of_withToken {c : Instr} {p : Port} {s : State} {command : List Word} {r : Response} {holder : Option Port}
    (h : exec c s = .next (postResponse p (commandCode command) r (s.withToken holder))) :
    ∃ t, exec c s = .next t ∧ Answered s t p command r ∧ t = (s.withWindows t.windows).withToken holder :=
  ⟨_, h, postResponse_answered (u := s.withToken holder) rfl command r, rfl⟩

/-- Settles O31: the three cases of the token holder, each by what the Shared Settings decide in it. -/
theorem tokenIsClaimed : Obligations.TokenIsClaimed :=
  ⟨rfl, fun p _ _ inHand =>
    ⟨fun unheld => answered_of_withToken (exec_claimToken_inHand inHand (decideClaimToken_of_unheld unheld p)),
      fun held => answeredOnly_of_refuse (exec_claimToken_inHand inHand (decideClaimToken_of_holder held)),
      fun _ held other => answeredOnly_of_refuse (exec_claimToken_inHand inHand (decideClaimToken_of_other held other))⟩⟩

/-! ### The token after a port reset -/

theorem orphanRequest_workOnly (i : Nat) (s : State) : WorkOnly s (orphanRequest i s) :=
  workOnly_trans (updateRequest_workOnly i _ s)
    (workOnly_trans (freeBuffers_workOnly _ _) (workOnly_trans (modifyService_workOnly _ _) (takeStop_workOnly _)))

theorem resetRequest_workOnly (p : Port) (s : State) (i : Nat) : WorkOnly s (resetRequest p s i) := by
  unfold resetRequest
  split
  · exact workOnly_refl s
  · split
    · split
      · exact orphanRequest_workOnly i s
      · exact workOnly_refl s
      · exact freeRequest_workOnly i s
    · exact workOnly_refl s

theorem resetRequests_workOnly (p : Port) (s : State) : WorkOnly s (resetRequests p s) :=
  foldl_workOnly _ (resetRequest_workOnly p) _ s

theorem token_of_locksOnly {s t : State} (h : LocksOnly s t) : t.token = s.token := by
  unfold LocksOnly at h
  exact (congrArg State.token h).trans rfl

theorem resetLocks_locksOnly (p : Port) (s : State) : LocksOnly s (resetLocks p s) := rfl

/-- A port reset frees the token of its own port and leaves that of another; of its steps only the one on the port's own state
touches the token. -/
theorem portReset_token (p : Port) (s : State) :
    (portReset p s).token = if s.token = some p then none else s.token := by
  have requests : (resetRequests p s).token = s.token := (resetRequests_workOnly p s).token
  have locks := locksOnly_trans (resetLocks_locksOnly p (resetPortState p (resetRequests p s))) (reexamine_locksOnly _)
  calc (portReset p s).token
      = (resetPortState p (resetRequests p s)).token := (settle_workOnly _).token.trans (token_of_locksOnly locks)
    _ = if (resetRequests p s).token = some p then none else (resetRequests p s).token := rfl
    _ = if s.token = some p then none else s.token := by rw [requests]

theorem portReset_token_of_holder {p : Port} {s : State} (h : s.token = some p) : (portReset p s).token = none :=
  (portReset_token p s).trans (if_pos h)

/-- Settles O32: what the Shared Settings decide with and without the token at the issuing port, and the token after both causes of
a port reset. -/
theorem tokenIsReleased : Obligations.TokenIsReleased :=
  ⟨fun _ _ _ inHand =>
    ⟨fun held => answered_of_withToken (exec_releaseToken_inHand inHand (decideReleaseToken_of_holder held)),
      fun unheld => answeredOnly_of_refuse (exec_releaseToken_inHand inHand (decideReleaseToken_of_not_holder unheld))⟩,
    fun _ value _ free held =>
      ⟨⟨_, exec_reset_of_free free value, portReset_token_of_holder held⟩,
        ⟨_, exec_initAsserted_of_free free, portReset_token_of_holder held⟩⟩⟩

end Sys2Proof.Machine
end

section
/-! The interrupt enable word and the window base word of a port (R178): what a write sets, what a read returns, the burst that reads
the base (R134), and the port reset that clears both (R180, steps 6 and 8). -/

namespace Sys2Proof.Machine

/-! ### The writes -/

theorem exec_interruptEnableWordWrite_of_free {p : Port} {s : State} (h : s.initLine.get p = false) (value : Word) :
    exec (.interruptEnableWordWrite p value) s = .next (s.withEnables (s.enables.set p (enablesOf value))) :=
  congrArg _ (windowWrite_of_free h _)

theorem exec_windowBaseWordWrite_of_free {p : Port} {s : State} (h : s.initLine.get p = false) (value : Word) :
    exec (.windowBaseWordWrite p value) s = .next (s.withWindowBase (s.windowBase.set p (lowByte value))) :=
  congrArg _ (windowWrite_of_free h _)

/-! ### The reads -/

theorem windowWord_enables (s : State) (p : Port) : windowWord s p 1 = enableWord (s.enables.get p) := rfl

theorem windowWord_windowBase (s : State) (p : Port) : windowWord s p 2 = wordOfBytes 0 (s.windowBase.get p) := rfl

theorem enableWord_eq_concat (e : Enables) :
    enableWord e = (((0#13).concat e.notice).concat e.completion).concat e.response := rfl

/-- The three enables in bits 0 to 2, and 0 in every bit above. -/
theorem enableWord_getLsbD (e : Enables) (k : Nat) :
    (enableWord e).getLsbD k =
      if k = 0 then e.response else if k = 1 then e.completion else if k = 2 then e.notice else false := by
  simp only [enableWord_eq_concat, BitVec.getLsbD_concat, BitVec.getLsbD_zero]
  match k with
  | 0 | 1 | 2 | k + 3 => rfl

theorem wordOfBytes_zero_toNat (low : Byte) : (wordOfBytes 0 low).toNat = low.toNat :=
  (BitVec.toNat_append 0 low).trans (Nat.zero_or _)

/-! ### The burst -/

/-- A grant reads the window base where the engine's buffer has moved no word, and keeps the base it read there after (R134). -/
theorem exec_busGrant_bufferBase {p : Port} {s : State} {i : Nat} {b : Buffer}
    (requesting : (s.engines.get p).state = .requesting) (current : (s.engines.get p).current = some i)
    (buffer : bufferAt s i = some b) :
    ∃ t, exec (.busGrant p) s = .next t ∧
      (t.engines.get p).bufferBase = if b.wordsMoved = 0 then s.windowBase.get p else (s.engines.get p).bufferBase := by
  refine ⟨_, rfl, ?_⟩
  simp [requesting, current, buffer, State.modifyEngine]

/-! ### The port reset -/

theorem windowBase_of_locksOnly {s t : State} (h : LocksOnly s t) : t.windowBase = s.windowBase := by
  unfold LocksOnly at h
  exact (congrArg State.windowBase h).trans rfl

/-- The Request Table, the locks and what the reset makes due touch no window base; the port's own state clears it (R180, step 8). -/
theorem portReset_windowBase (p : Port) (s : State) : (portReset p s).windowBase.get p = 0 := by
  have locks := locksOnly_trans (resetLocks_locksOnly p (resetPortState p (resetRequests p s))) (reexamine_locksOnly _)
  have h : (portReset p s).windowBase = (resetPortState p (resetRequests p s)).windowBase :=
    (settle_workOnly _).windowBase.trans (windowBase_of_locksOnly locks)
  rw [h]
  exact PortMap.get_set_same _ p _

/-- Settles O10: the two writes and the port reset of a port not held in reset, the two words as read, and the base as the first burst
of a buffer reads it. -/
theorem enableAndBaseWordsHold : Obligations.EnableAndBaseWordsHold :=
  ⟨fun p value _ free =>
    ⟨exec_interruptEnableWordWrite_of_free free value, exec_windowBaseWordWrite_of_free free value,
      _, exec_reset_of_free free value, portReset_enables p _, portReset_windowBase p _⟩,
    fun p s _ => ⟨by rw [windowWord_enables, enableWord_getLsbD], by rw [windowWord_windowBase, wordOfBytes_zero_toNat]⟩,
    fun _ _ _ _ _ requesting current buffer _ => exec_busGrant_bufferBase requesting current buffer⟩

end Sys2Proof.Machine
end

section
/-! The commands as a whole: what a command in hand changes besides the state its unit leaves, and that every command completes, keeps
the queue of commands, and keeps to the window of its own port and to its settings (R172, R175; log 1). -/

namespace Sys2Proof.Machine

open Sys2Proof.Safety

/-! ### The Lock Unit together with the work in progress -/

/-- Nothing but the Lock Table, the waiters and the work in progress differs. -/
def LocksAndWork (s t : State) : Prop := WorkOnly ((s.withLocks t.locks).withWaiters t.waiters) t

theorem locksAndWork_of_workOnly {s t : State} (h : WorkOnly s t) : LocksAndWork s t :=
  ⟨h.pending, h.windows, h.windowBase, h.initLine, h.enables, h.completions, h.notices, h.watches, rfl, rfl, h.settings, h.token⟩

theorem locksAndWork_of_locksOnly {s t : State} (h : LocksOnly s t) : LocksAndWork s t := by
  unfold LocksOnly at h
  rw [h]
  exact ⟨rfl, rfl, rfl, rfl, rfl, rfl, rfl, rfl, rfl, rfl, rfl, rfl⟩

theorem locksAndWork_refl (s : State) : LocksAndWork s s := locksAndWork_of_workOnly (workOnly_refl s)

theorem locksAndWork_trans {s t u : State} (h : LocksAndWork s t) (k : LocksAndWork t u) : LocksAndWork s u :=
  ⟨k.pending.trans h.pending, k.windows.trans h.windows, k.windowBase.trans h.windowBase, k.initLine.trans h.initLine,
    k.enables.trans h.enables, k.completions.trans h.completions, k.notices.trans h.notices, k.watches.trans h.watches,
    rfl, rfl, k.settings.trans h.settings, k.token.trans h.token⟩

theorem foldl_locksAndWork {α : Type} (f : State → α → State) (h : ∀ s x, LocksAndWork s (f s x)) (l : List α) (s : State) :
    LocksAndWork s (l.foldl f s) := by
  induction l generalizing s with
  | nil => exact locksAndWork_refl s
  | cons x l ih => exact locksAndWork_trans (h s x) (ih (f s x))

theorem reexamine_locksAndWork (s : State) : LocksAndWork s (reexamine s) :=
  locksAndWork_of_locksOnly (reexamine_locksOnly s)

theorem setLockState_locksAndWork (i : Nat) (state : LockState) (s : State) : LocksAndWork s (setLockState i state s) :=
  locksAndWork_of_locksOnly (setLockState_locksOnly i state s)

theorem forceUnreported_locksAndWork (i : Nat) (lock : Lock) (s : State) : LocksAndWork s (forceUnreported i lock s) :=
  locksAndWork_trans (setLockState_locksAndWork i _ s)
    (locksAndWork_of_workOnly (workOnly_trans (lockCessation_workOnly _ _ _) (cessationStop_workOnly _ _)))

theorem ceaseLock_locksAndWork (i : Nat) (lock : Lock) (kind : EndKind) (s : State) : LocksAndWork s (ceaseLock i lock kind s) :=
  locksAndWork_trans (setLockState_locksAndWork i _ s)
    (locksAndWork_of_workOnly
      (workOnly_trans (workOnly_trans (lockCessation_workOnly _ _ _) (joinPending_workOnly _ _ _)) (cessationStop_workOnly _ _)))

theorem tickLease_locksAndWork (s : State) (i : Nat) : LocksAndWork s (tickLease s i) := by
  unfold tickLease
  split
  · split
    · exact ceaseLock_locksAndWork _ _ _ s
    · exact setLockState_locksAndWork _ _ s
  · exact locksAndWork_refl s

theorem denyWaiter_locksOnly (w : Waiter) (s : State) : LocksOnly s (denyWaiter w s) := rfl

theorem tickWaiter_locksOnly (s : State) (w : Waiter) : LocksOnly s (tickWaiter s w) := by
  unfold tickWaiter
  split
  · split
    · exact denyWaiter_locksOnly w s
    · rfl
  · exact locksOnly_refl s

theorem tickWaiters_locksAndWork (s : State) : LocksAndWork s (tickWaiters s) :=
  foldl_locksAndWork _ (fun s w => locksAndWork_of_locksOnly (tickWaiter_locksOnly s w)) _ s

theorem exec_leaseTick_locksAndWork (s : State) : ∃ t, exec .leaseTick s = .next t ∧ LocksAndWork s t := by
  have reexamined : ∀ (b : Bool) (u : State), LocksAndWork u (if b then reexamine u else u) := fun b u => by
    cases b
    · exact locksAndWork_refl u
    · exact reexamine_locksAndWork u
  have settled : ∀ (b : Bool) (u : State), LocksAndWork u (if b then settle u else u) := fun b u => by
    cases b
    · exact locksAndWork_refl u
    · exact locksAndWork_of_workOnly (settle_workOnly u)
  exact ⟨_, rfl, locksAndWork_trans (locksAndWork_trans (locksAndWork_trans (locksAndWork_trans
    (foldl_locksAndWork _ tickLease_locksAndWork _ s) (reexamined _ _)) (tickWaiters_locksAndWork _)) (reexamined _ _)) (settled _ _)⟩

/-! ### A command in hand -/

/-- What reads no window reads the same after a command is taken as in the state its unit leaves. -/
theorem takeCommand_reads {α : Type} (f : State → α) (windows : ∀ s v, f (s.withWindows v) = f s) {p : Port} {owns : Byte → Bool}
    {decision : List Word → State → Answer} {s : State} (decided : ∀ command, f (decision command s).state = f s) :
    f (takeCommand p owns decision s) = f s := by
  unfold takeCommand
  split
  · rfl
  · split
    · rfl
    · split
      · exact (windows _ _).trans (decided _)
      · rfl

theorem takeCommand_otherWindow {p q : Port} (other : q ≠ p) {owns : Byte → Bool} {decision : List Word → State → Answer} {s : State}
    (decided : ∀ command, (decision command s).state.windows = s.windows) :
    (takeCommand p owns decision s).windows.get q = s.windows.get q := by
  unfold takeCommand
  split
  · rfl
  · split
    · rfl
    · split
      · exact (PortMap.get_set_ne _ _ _ _ other).trans (congrArg (PortMap.get · q) (decided _))
      · rfl

/-- A command in hand whose unit decides `r` and leaves `u` answers `r` on `u`. -/
theorem exec_of_taken {c : Instr} {p : Port} {s : State} {command : List Word} {code : Byte} {owns : Byte → Bool}
    {decision : List Word → State → Answer} (meaning : exec c s = .next (takeCommand p owns decision s))
    (h : InHand s p command code) (own : owns code = true) {r : Response} {u : State} (decided : decision command s = ⟨r, u⟩) :
    exec c s = .next (postResponse p (commandCode command) r u) := by
  have ⟨_, isCode, _⟩ := h
  rw [meaning, takeCommand_inHand h own, decided, isCode]

theorem answered_of_post {c : Instr} {p : Port} {s u : State} {command : List Word} {r : Response} (same : u.windows = s.windows)
    (h : exec c s = .next (postResponse p (commandCode command) r u)) :
    ∃ t, exec c s = .next t ∧ Answered s t p command r ∧ t = u.withWindows t.windows :=
  ⟨_, h, postResponse_answered same command r, postResponse_eq p _ r u⟩

/-! ### What each unit decides, as a frame -/

theorem decideTransfer_workOnly (p : Port) (x : Transfer) (s : State) : WorkOnly s (decideTransfer p x s).state := by
  unfold decideTransfer
  split
  · exact workOnly_refl s
  · split
    · exact workOnly_refl s
    · show WorkOnly s (acceptTransfer _ p x s)
      unfold acceptTransfer
      dsimp only
      split
      · exact workOnly_trans (withRequests_workOnly s _) (settle_workOnly _)
      · exact withRequests_workOnly s _

theorem decideCancel_workOnly (p : Port) (tag : BitVec 8) (s : State) : WorkOnly s (decideCancel p tag s).state := by
  unfold decideCancel
  split
  · exact workOnly_refl s
  · split
    · exact workOnly_trans (enterHeld_workOnly _ _ _ s) (settle_workOnly _)
    · exact workOnly_trans (enterHeld_workOnly _ _ _ s) (settle_workOnly _)
    · exact workOnly_trans (askStop_workOnly _ _ s) (settle_workOnly _)
    · exact workOnly_refl s
    · exact workOnly_refl s

theorem queueWaiter_locksOnly (lock : Lock) (limit : Nat) (s : State) : LocksOnly s (queueWaiter lock limit s).state := by
  unfold queueWaiter
  split <;> rfl

theorem decideClaim_locksOnly (lock : Lock) (limit : Nat) (s : State) : LocksOnly s (decideClaim lock limit s).state := by
  unfold decideClaim
  split
  · split
    · rfl
    · exact queueWaiter_locksOnly lock limit s
  · split
    · split
      · rfl
      · exact queueWaiter_locksOnly lock limit s
    · exact allocateLock_locksOnly _ _ _ s

theorem decideAcquire_locksOnly (p : Port) (command : List Word) (s : State) : LocksOnly s (decideAcquire p command s).state := by
  unfold decideAcquire
  dsimp only
  split
  · rfl
  · rfl
  · exact decideClaim_locksOnly _ _ s

theorem decideRenew_locksOnly (p : Port) (h : Handle) (s : State) : LocksOnly s (decideRenew p h s).state := by
  unfold decideRenew
  split <;> rfl

theorem decideRelease_locksOnly (p : Port) (h : Handle) (s : State) : LocksOnly s (decideRelease p h s).state := by
  unfold decideRelease
  split
  · rfl
  · split
    · rfl
    · exact locksOnly_trans (setLockState_locksOnly _ _ s) (reexamine_locksOnly _)

theorem decideForceRelease_locksAndWork (p : Port) (h : Handle) (s : State) :
    LocksAndWork s (decideForceRelease p h s).state := by
  have rest : ∀ u, LocksAndWork u (settle (reexamine u)) := fun u =>
    locksAndWork_trans (reexamine_locksAndWork u) (locksAndWork_of_workOnly (settle_workOnly _))
  unfold decideForceRelease
  split
  · split
    · exact locksAndWork_refl s
    · exact locksAndWork_trans (ceaseLock_locksAndWork _ _ _ s) (rest _)
    · exact locksAndWork_trans (forceUnreported_locksAndWork _ _ s) (rest _)
  · exact locksAndWork_refl s

theorem decideWithdraw_locksOnly (p : Port) (number : Nat) (s : State) : LocksOnly s (decideWithdraw p number s).state := by
  unfold decideWithdraw
  split
  · rfl
  · split
    · rfl
    · split
      · exact locksOnly_trans (removeWaiter_locksOnly _ s) (reexamine_locksOnly _)
      · rfl

/-- A WATCH or UNWATCH leaves all but the watches. -/
theorem decideWatch_eq (p : Port) (extent : Extent) (s : State) :
    (decideWatch p extent s).state = s.withWatches (decideWatch p extent s).state.watches := by
  unfold decideWatch
  split
  · rfl
  · split
    · rfl
    · split <;> rfl

theorem decideUnwatch_eq (p : Port) (number : Nat) (s : State) :
    (decideUnwatch p number s).state = s.withWatches (decideUnwatch p number s).state.watches := by
  unfold decideUnwatch
  split
  · rfl
  · split <;> rfl

theorem decideClaimToken_eq (p : Port) (s : State) :
    (decideClaimToken p s).state = s.withToken (decideClaimToken p s).state.token := by
  unfold decideClaimToken
  split
  · rfl
  · split <;> rfl

theorem decideReleaseToken_eq (p : Port) (s : State) :
    (decideReleaseToken p s).state = s.withToken (decideReleaseToken p s).state.token := by
  unfold decideReleaseToken
  split <;> rfl

theorem decideSetSetting_eq (p : Port) (item : Word) (v : Nat) (s : State) :
    (decideSetSetting p item v s).state = s.withSettings (decideSetSetting p item v s).state.settings := by
  unfold decideSetSetting
  split
  · split
    · rfl
    · split <;> rfl
  · rfl

/-! ### The postings and the write reports -/

/-- A posting that goes through leaves all but the Request Table, the Lock Table, the waiters and the pending-record lists. -/
theorem postItem_locksAndWork {item : OwnerRef} {s t : State} {record : Record} (h : postItem item s = some (record, t)) :
    LocksAndWork s t := by
  unfold postItem at h
  have rest : ∀ u, LocksOnly s u → LocksAndWork s (reexamine u) := fun u k =>
    locksAndWork_trans (locksAndWork_of_locksOnly k) (reexamine_locksAndWork u)
  split at h
  · split at h
    · cases h
    · split at h <;> cases h
      exact locksAndWork_of_workOnly (removeRequest_workOnly _ s)
  · split at h <;> cases h
    · exact setLockState_locksAndWork _ _ s
    · exact rest _ (setLockState_locksOnly _ _ s)
    · exact rest _ (setLockState_locksOnly _ _ s)
  · split at h
    · cases h
    · split at h <;> cases h
      exact rest _ (removeWaiter_locksOnly _ s)

/-- A posting either does nothing or changes the owner entry of the oldest item and joins its record to the queue. -/
theorem postRecord_cases (p : Port) (s : State) :
    postRecord p s = s ∨
      ∃ item rest record t, (s.completions.get p).length < Config.completionCapacity ∧ s.pendingRecords.get p = item :: rest ∧
        postItem item (s.withPendingRecords (s.pendingRecords.set p rest)) = some (record, t) ∧
        postRecord p s = t.withCompletions (t.completions.set p (t.completions.get p ++ [record])) := by
  unfold postRecord
  split
  · split
    · exact .inl rfl
    · split
      · exact .inl rfl
      · exact .inr ⟨_, _, _, _, ‹_›, ‹_›, ‹_›, rfl⟩
  · exact .inl rfl

theorem postRecord_frame (p : Port) (s : State) :
    (postRecord p s).pending = s.pending ∧ (postRecord p s).windows = s.windows ∧ (postRecord p s).settings = s.settings := by
  rcases postRecord_cases p s with h | ⟨_, _, _, t, _, _, posted, h⟩
  · rw [h]; exact ⟨rfl, rfl, rfl⟩
  · have k := postItem_locksAndWork posted
    rw [h]
    exact ⟨k.pending, k.windows, k.settings⟩

theorem offerNotice_eq (p : Port) (s : State) (n : Notice) : offerNotice p s n = s.withNotices (offerNotice p s n).notices := by
  unfold offerNotice
  dsimp only
  split <;> rfl

theorem foldl_offerNotice_eq (p : Port) (l : List Notice) (s : State) :
    l.foldl (offerNotice p) s = s.withNotices (l.foldl (offerNotice p) s).notices := by
  induction l generalizing s with
  | nil => rfl
  | cons n l ih =>
    rw [List.foldl_cons, ih, offerNotice_eq]
    rfl

theorem reportToPort_eq (report : WriteReport) (p : Port) (s : State) :
    reportToPort report p s = s.withNotices (reportToPort report p s).notices := by
  unfold reportToPort
  split
  · rfl
  · exact foldl_offerNotice_eq p _ s

/-! ### The events of the drive and of the host bus -/

theorem beginFormatBlock_workOnly (v : Service) (s : State) : WorkOnly s (beginFormatBlock v s) := by
  unfold beginFormatBlock
  split
  · exact workOnly_refl s
  · exact workOnly_trans (modifyService_workOnly _ s) (assertWriteGate_workOnly _ _)

theorem indexInSearch_workOnly (s : State) : WorkOnly s (indexInSearch s) := by
  unfold indexInSearch
  split
  · exact workOnly_refl s
  · split
    · exact workOnly_trans (failCurrent_workOnly _ s) (settle_workOnly _)
    · exact modifyService_workOnly _ s

theorem indexInFormat_workOnly (s : State) : WorkOnly s (indexInFormat s) := by
  unfold indexInFormat
  split
  · exact workOnly_refl s
  · split
    · exact modifyService_workOnly _ s
    · exact workOnly_refl s
    · exact workOnly_trans (failOnMedium_workOnly _ _ s) (settle_workOnly _)
    · exact workOnly_trans (failOnMedium_workOnly _ _ s) (settle_workOnly _)

theorem markInFormat_workOnly (s : State) : WorkOnly s (markInFormat s) := by
  unfold markInFormat
  split
  · exact workOnly_refl s
  · split
    · exact workOnly_refl s
    · exact beginFormatBlock_workOnly _ s
    · exact workOnly_trans (failOnMedium_workOnly _ _ s) (settle_workOnly _)
    · exact beginFormatBlock_workOnly _ s

theorem cutField_workOnly (s : State) : WorkOnly s (if readsField s then settle (dataCheckError s) else s) := by
  split
  · exact workOnly_trans (dataCheckError_workOnly s) (settle_workOnly _)
  · exact workOnly_refl s

theorem exec_index_workOnly (wp : Bool) (s : State) : ∃ t, exec (.index wp) s = .next t ∧ WorkOnly s t := by
  refine ⟨_, rfl, workOnly_trans (senseWriteProtect_workOnly wp s) ?_⟩
  split
  · refine workOnly_trans (modifySequencer_workOnly _ fun q => { q with position := some 0 }) ?_
    dsimp only
    split
    · exact indexInSearch_workOnly _
    · exact cutField_workOnly _
    · exact indexInFormat_workOnly _
    · exact workOnly_refl _
  · exact workOnly_refl _

theorem exec_blockMark_workOnly (wp : Bool) (s : State) : ∃ t, exec (.blockMark wp) s = .next t ∧ WorkOnly s t := by
  refine ⟨_, rfl, workOnly_trans (senseWriteProtect_workOnly wp s) ?_⟩
  split
  · refine workOnly_trans (modifySequencer_workOnly _ fun q =>
      { q with position := positionAfterMark (senseWriteProtect wp s).sequencer.position }) ?_
    dsimp only
    split
    · exact modifyService_workOnly _ _
    · exact cutField_workOnly _
    · exact markInFormat_workOnly _
    · exact workOnly_refl _
  · exact workOnly_refl _

theorem enterTransferring_workOnly (v : Service) (s : State) : WorkOnly s (enterTransferring v s) := modifySequencer_workOnly s _

theorem readAtHeader_workOnly (v : Service) (r : Request) (s : State) : WorkOnly s (readAtHeader v r s) := by
  unfold readAtHeader
  split
  · exact enterTransferring_workOnly v s
  · split
    · split
      · exact workOnly_refl s
      · exact workOnly_trans (setBuffer_workOnly _ _ s) (enterTransferring_workOnly _ _)
    · exact workOnly_refl s

theorem writeAtHeader_workOnly (v : Service) (r : Request) (s : State) : WorkOnly s (writeAtHeader v r s) := by
  unfold writeAtHeader
  split
  · exact workOnly_refl s
  · split
    · exact workOnly_trans (failCurrent_workOnly _ s) (settle_workOnly _)
    · exact workOnly_trans (workOnly_trans (setBuffer_workOnly _ _ s) (enterTransferring_workOnly _ _)) (assertWriteGate_workOnly _ _)

theorem targetHeader_workOnly (h : Header) (v : Service) (r : Request) (s : State) : WorkOnly s (targetHeader h v r s) := by
  unfold targetHeader
  dsimp only
  refine workOnly_trans (modifySequencer_workOnly s fun q => { q with service := some { v with indexPasses := 0 } }) ?_
  split
  · exact workOnly_trans (failCurrent_workOnly _ _) (settle_workOnly _)
  · split
    · exact readAtHeader_workOnly _ r _
    · exact writeAtHeader_workOnly _ r _
    · exact enterTransferring_workOnly _ _
    · exact workOnly_refl _

theorem headerInSearch_workOnly (field : List Byte) (v : Service) (s : State) : WorkOnly s (headerInSearch field v s) := by
  unfold headerInSearch
  split
  · exact workOnly_refl s
  · rename_i h _
    split
    · refine workOnly_trans (modifySequencer_workOnly s fun q => { q with position := some ((h.block + 1) % Config.blocksPerTrack) }) ?_
      dsimp only
      split
      · split
        · exact workOnly_refl _
        · exact targetHeader_workOnly _ _ _ _
      · exact workOnly_refl _
    · exact workOnly_trans (headerMismatch_workOnly s) (settle_workOnly _)

theorem exec_headerRead_workOnly (wp : Bool) (field : List Byte) (s : State) :
    ∃ t, exec (.headerRead wp field) s = .next t ∧ WorkOnly s t := by
  refine ⟨_, rfl, workOnly_trans (senseWriteProtect_workOnly wp s) ?_⟩
  split
  · exact workOnly_refl _
  · split
    · exact workOnly_trans (modifySequencer_workOnly _ _) (headerInSearch_workOnly field _ _)
    · exact workOnly_refl _

theorem blockFinished_workOnly (retries : Nat) (s : State) : WorkOnly s (blockFinished retries s) :=
  workOnly_trans (finishBlocks_workOnly _ _ s) (workOnly_trans (advance_workOnly _) (settle_workOnly _))

theorem fillBuffer_workOnly (v : Service) (field : List Byte) (s : State) : WorkOnly s (fillBuffer v field s) := by
  unfold fillBuffer
  split
  · exact workOnly_refl s
  · split
    · exact workOnly_refl s
    · exact workOnly_trans (setBuffer_workOnly _ _ s) (modifyService_workOnly _ _)

theorem readFieldEnd_workOnly (v : Service) (r : Request) (field : List Byte) (s : State) : WorkOnly s (readFieldEnd v r field s) := by
  unfold readFieldEnd
  split
  · split
    · refine workOnly_trans (t := if v.orphan then s else fillBuffer v field s) ?_ (blockFinished_workOnly _ _)
      split
      · exact workOnly_refl s
      · exact fillBuffer_workOnly v field s
    · exact blockFinished_workOnly _ s
  · exact workOnly_trans (dataCheckError_workOnly s) (settle_workOnly _)

theorem writeFieldEnd_workOnly (v : Service) (s : State) : WorkOnly s (writeFieldEnd v s) :=
  workOnly_trans (freeBuffers_workOnly _ s) (workOnly_trans (removeWriteGate_workOnly _) (blockFinished_workOnly _ _))

theorem formatFieldEnd_workOnly (v : Service) (s : State) : WorkOnly s (formatFieldEnd v s) := by
  unfold formatFieldEnd
  split
  · split
    · exact workOnly_trans (workOnly_trans (removeWriteGate_workOnly s) (finishBlocks_workOnly _ _ _))
        (workOnly_trans (endOnMedium_workOnly _ _ _) (settle_workOnly _))
    · exact workOnly_trans (modifyService_workOnly _ s) (assertWriteGate_workOnly _ _)
  · exact workOnly_refl s

theorem exec_dataFieldEnd_workOnly (wp : Bool) (field : List Byte) (s : State) :
    ∃ t, exec (.dataFieldEnd wp field) s = .next t ∧ WorkOnly s t := by
  refine ⟨_, rfl, workOnly_trans (senseWriteProtect_workOnly wp s) ?_⟩
  split
  · exact workOnly_refl _
  · split
    · exact workOnly_refl _
    · split
      · split
        · exact writeFieldEnd_workOnly _ _
        · exact readFieldEnd_workOnly _ _ field _
      · exact formatFieldEnd_workOnly _ _
      · exact workOnly_refl _

theorem setRecovery_workOnly (recovery : Recovery) (s : State) : WorkOnly s (setRecovery recovery s) := modifyService_workOnly _ s

theorem seekArrived_workOnly (v : Service) (s : State) : WorkOnly s (seekArrived v s) := by
  unfold seekArrived
  split
  · exact workOnly_trans (endOnMedium_workOnly _ _ s) (settle_workOnly _)
  · split
    · split
      · exact workOnly_trans (setRecovery_workOnly _ s) (enterSettling_workOnly _)
      · exact workOnly_trans (setRecovery_workOnly _ s) (issueSeek_workOnly _ _)
    · exact workOnly_trans (setRecovery_workOnly _ s) (enterSettling_workOnly _)
    · exact enterSettling_workOnly s

theorem endPositioning_workOnly (s : State) : WorkOnly s (endPositioning s) := modifySequencer_workOnly s _

theorem exec_seekDone_workOnly (wp : Bool) (s : State) : ∃ t, exec (.seekDone wp) s = .next t ∧ WorkOnly s t := by
  refine ⟨_, rfl, workOnly_trans (senseWriteProtect_workOnly wp s) ?_⟩
  split
  · exact workOnly_refl _
  · rename_i positioning _
    refine workOnly_trans (workOnly_trans (endPositioning_workOnly _)
      (modifySequencer_workOnly _ fun q => { q with believed := some positioning.cylinder })) ?_
    dsimp only
    split
    · exact workOnly_trans (modifySequencer_workOnly _ fun q => { q with state := .idle }) (settle_workOnly _)
    · split
      · exact workOnly_refl _
      · exact seekArrived_workOnly _ _
    · exact workOnly_refl _

theorem exec_positioningTimeLimit_workOnly (s : State) : ∃ t, exec .positioningTimeLimit s = .next t ∧ WorkOnly s t := by
  refine ⟨_, rfl, ?_⟩
  split
  · refine workOnly_trans (endPositioning_workOnly s) ?_
    dsimp only
    split
    · exact workOnly_trans (modifySequencer_workOnly _ fun q => { q with state := .offline }) (offlineReport_workOnly _)
    · split
      · exact workOnly_refl _
      · split
        · exact workOnly_trans (endOnMedium_workOnly _ _ _) (settle_workOnly _)
        · exact workOnly_trans (headerMismatch_workOnly _) (settle_workOnly _)
    · exact workOnly_refl _
  · exact workOnly_refl s

theorem exec_settleExpiry_workOnly (s : State) : ∃ t, exec .settleExpiry s = .next t ∧ WorkOnly s t := by
  refine ⟨_, rfl, ?_⟩
  split
  · refine workOnly_trans (modifySequencer_workOnly s fun q => { q with settleTimer := none }) ?_
    dsimp only
    split
    · exact workOnly_refl _
    · split
      · exact workOnly_trans (enterFormatting_workOnly _) (settle_workOnly _)
      · exact enterSearching_workOnly _
  · exact workOnly_refl s

theorem exec_faultHoldExpiry_workOnly (s : State) : ∃ t, exec .faultHoldExpiry s = .next t ∧ WorkOnly s t := by
  refine ⟨_, rfl, ?_⟩
  split
  · exact workOnly_trans (modifySequencer_workOnly s fun q => { q with state := .offline, faultHoldTimer := none })
      (offlineReport_workOnly _)
  · exact workOnly_refl s

theorem exec_risingReady_workOnly (wp : Bool) (s : State) : ∃ t, exec (.risingReady wp) s = .next t ∧ WorkOnly s t := by
  refine ⟨_, rfl, workOnly_trans (senseWriteProtect_workOnly wp s) ?_⟩
  split
  · exact workOnly_refl _
  · exact riseReady_workOnly _

theorem loseReady_workOnly (s : State) : WorkOnly s (loseReady s) :=
  workOnly_trans (modifyDrive_workOnly s _) (modifySequencer_workOnly _ _)

theorem enterHolding_workOnly (s : State) : WorkOnly s (enterHolding s) := modifySequencer_workOnly s _

theorem exec_fallingReady_workOnly (wp : Bool) (s : State) : ∃ t, exec (.fallingReady wp) s = .next t ∧ WorkOnly s t := by
  refine ⟨_, rfl, workOnly_trans (senseWriteProtect_workOnly wp s) ?_⟩
  split
  · refine workOnly_trans (loseReady_workOnly _) ?_
    dsimp only
    split
    · exact workOnly_refl _
    · exact workOnly_refl _
    · exact enterHolding_workOnly _
    · exact enterHolding_workOnly _
    · exact workOnly_trans (endOnMedium_workOnly _ _ _) (workOnly_trans (enterHolding_workOnly _) (settle_workOnly _))
  · exact workOnly_refl _

theorem exec_busGrant_workOnly (p : Port) (s : State) : ∃ t, exec (.busGrant p) s = .next t ∧ WorkOnly s t := by
  refine ⟨_, rfl, ?_⟩
  dsimp only
  split
  · split
    · exact workOnly_refl s
    · exact modifyEngine_workOnly s p _
  · exact workOnly_refl s

theorem drainBurstEnd_workOnly (p : Port) (i : Nat) (b : Buffer) (moved : Nat) (data : List Word) (s : State) :
    WorkOnly s (drainBurstEnd p i b moved data s) := by
  unfold drainBurstEnd
  split
  · exact workOnly_trans (modifyEngine_workOnly s p _) (workOnly_trans (setBuffer_workOnly _ _ _) (deliveryReport_workOnly _ _))
  · exact workOnly_trans (setBuffer_workOnly _ _ s) (requestBus_workOnly p _)

theorem loadBurstEnd_workOnly (p : Port) (i : Nat) (b : Buffer) (data words : List Word) (s : State) :
    WorkOnly s (loadBurstEnd p i b data words s) := by
  unfold loadBurstEnd
  refine workOnly_trans (modifyEngine_workOnly s p fun e => { e with burstRegister := words }) ?_
  dsimp only
  split
  · exact workOnly_trans (modifyEngine_workOnly _ p _) (setBuffer_workOnly _ _ _)
  · exact workOnly_trans (setBuffer_workOnly _ _ _) (requestBus_workOnly p _)

theorem exec_burstEnd_workOnly (p : Port) (words : Vector Word 16) (s : State) :
    ∃ t, exec (.burstEnd p words) s = .next t ∧ WorkOnly s t := by
  refine ⟨_, rfl, ?_⟩
  split
  · split
    · exact workOnly_trans (modifyEngine_workOnly s p _) (settle_workOnly _)
    · split
      · exact workOnly_refl s
      · split
        · exact workOnly_refl s
        · split
          · exact workOnly_trans (drainBurstEnd_workOnly _ _ _ _ _ s) (settle_workOnly _)
          · exact workOnly_trans (loadBurstEnd_workOnly _ _ _ _ _ s) (settle_workOnly _)
          · exact workOnly_refl s
  · exact workOnly_refl s

theorem exec_hostBusTimeout_workOnly (p : Port) (s : State) : ∃ t, exec (.hostBusTimeout p) s = .next t ∧ WorkOnly s t := by
  refine ⟨_, rfl, ?_⟩
  split
  · split
    · exact workOnly_refl s
    · exact workOnly_trans (modifyEngine_workOnly s p _)
        (workOnly_trans (freeBuffers_workOnly _ _) (workOnly_trans (timeoutReport_workOnly _ _) (settle_workOnly _)))
  · exact workOnly_refl s

end Sys2Proof.Machine
end

section
/-! Every command completes, leaves the queue of commands alone, and keeps to its own port's window; only SET SETTING and power-on reset
touch a setting (R164, R172; log 1). Each command is brought under one frame, by what its unit may change. -/

namespace Sys2Proof.Machine

open Sys2Proof.Safety

/-- What the frame of a command says: it answers a next state, keeps the queue of commands, keeps the settings unless it may set one,
and keeps every window but that of its own port, power-on reset apart. -/
def Framed (c : Instr) (s : State) : Prop :=
  ∃ t, exec c s = .next t ∧ t.pending = s.pending ∧ (maySet c = false → t.settings = s.settings) ∧
    ∀ q, windowPort c ≠ some q → (∀ ready wp i j k l, c ≠ .powerOnReset ready wp i j k l) → t.windows.get q = s.windows.get q

theorem framed_of_locksAndWork {c : Instr} {s : State} (h : ∃ t, exec c s = .next t ∧ LocksAndWork s t) : Framed c s := by
  obtain ⟨t, next, k⟩ := h
  exact ⟨t, next, k.pending, fun _ => k.settings, fun q _ _ => congrArg (PortMap.get · q) k.windows⟩

theorem framed_of_workOnly {c : Instr} {s : State} (h : ∃ t, exec c s = .next t ∧ WorkOnly s t) : Framed c s := by
  obtain ⟨t, next, k⟩ := h
  exact framed_of_locksAndWork ⟨t, next, locksAndWork_of_workOnly k⟩

/-- A command in hand keeps to the frame when its unit does. -/
theorem framed_of_taken {c : Instr} {p : Port} {s : State} {owns : Byte → Bool} {decision : List Word → State → Answer}
    (own : windowPort c = some p) (meaning : exec c s = .next (takeCommand p owns decision s))
    (pending : ∀ command, (decision command s).state.pending = s.pending)
    (windows : ∀ command, (decision command s).state.windows = s.windows)
    (settings : maySet c = false → ∀ command, (decision command s).state.settings = s.settings) : Framed c s :=
  ⟨_, meaning, takeCommand_reads State.pending (fun _ _ => rfl) pending,
    fun h => takeCommand_reads State.settings (fun _ _ => rfl) (settings h),
    fun _ h _ => takeCommand_otherWindow (fun e => h (own.trans (congrArg some e.symm))) windows⟩

theorem framed_of_decided {c : Instr} {p : Port} {s : State} {owns : Byte → Bool} {decision : List Word → State → Answer}
    (own : windowPort c = some p) (meaning : exec c s = .next (takeCommand p owns decision s))
    (decided : ∀ command, LocksAndWork s (decision command s).state) : Framed c s :=
  framed_of_taken own meaning (fun command => (decided command).pending) (fun command => (decided command).windows)
    fun _ command => (decided command).settings

/-- A write of a word of port `p` keeps to the frame when its effect does. -/
theorem framed_of_windowWrite {c : Instr} {p : Port} {s : State} {effect : State → State} (own : windowPort c = some p ∨
      (effect s).windows = s.windows) (meaning : exec c s = .next (windowWrite p effect s)) (pending : (effect s).pending = s.pending)
    (windows : ∀ q, q ≠ p → (effect s).windows.get q = s.windows.get q) (settings : (effect s).settings = s.settings) :
    Framed c s := by
  unfold windowWrite at meaning
  split at meaning
  · exact ⟨s, meaning, rfl, fun _ => rfl, fun _ _ _ => rfl⟩
  · refine ⟨_, meaning, pending, fun _ => settings, fun q h _ => ?_⟩
    rcases own with own | same
    · exact windows q fun e => h (own.trans (congrArg some e.symm))
    · rw [same]

/-- A port reset keeps to the frame of the port. -/
theorem portReset_frame (p : Port) (s : State) :
    (portReset p s).pending = s.pending ∧ (portReset p s).settings = s.settings ∧
      ∀ q, q ≠ p → (portReset p s).windows.get q = s.windows.get q := by
  have requests := resetRequests_workOnly p s
  have locks := locksOnly_trans (resetLocks_locksOnly p (resetPortState p (resetRequests p s))) (reexamine_locksOnly _)
  have rest : LocksAndWork (resetPortState p (resetRequests p s)) (portReset p s) :=
    locksAndWork_trans (locksAndWork_of_locksOnly locks) (locksAndWork_of_workOnly (settle_workOnly _))
  refine ⟨rest.pending.trans requests.pending, rest.settings.trans requests.settings, fun q h => ?_⟩
  calc (portReset p s).windows.get q
      = ((resetRequests p s).windows.set p .reset).get q := congrArg (PortMap.get · q) rest.windows
    _ = s.windows.get q := by rw [PortMap.get_set_ne _ _ _ _ h, requests.windows]

theorem withNotices_trans {s t u : State} (h : t = s.withNotices t.notices) (k : u = t.withNotices u.notices) :
    u = s.withNotices u.notices :=
  k.trans (by rw [h]; rfl)

/-- A write report that has reached the four ports has changed the notice queues alone. -/
theorem reportToPorts_eq (report : WriteReport) (s : State) :
    reportToPort report .d (reportToPort report .c (reportToPort report .b (reportToPort report .a s))) =
      s.withNotices
        (reportToPort report .d (reportToPort report .c (reportToPort report .b (reportToPort report .a s)))).notices :=
  withNotices_trans (withNotices_trans (withNotices_trans (reportToPort_eq report .a s) (reportToPort_eq report .b _))
    (reportToPort_eq report .c _)) (reportToPort_eq report .d _)

theorem exec_framed (c : Instr) (s : State) : Framed c s := by
  cases c with
  | powerOnReset ready wp a b c d =>
    obtain ⟨t, next, work⟩ := exec_powerOnReset_workOnly ready wp a b c d s
    exact ⟨t, next, work.pending, fun h => Bool.noConfusion h, fun _ _ h => absurd rfl (h ready wp a b c d)⟩
  | initAsserted p =>
    cases held : s.initLine.get p with
    | true => exact ⟨s, by simp [exec, execInitAsserted, held], rfl, fun _ => rfl, fun _ _ _ => rfl⟩
    | false =>
      obtain ⟨pending, settings, windows⟩ := portReset_frame p (s.withInitLine (s.initLine.set p true))
      exact ⟨_, exec_initAsserted_of_free held, pending, fun _ => settings,
        fun q h _ => windows q fun e => h (congrArg some e.symm)⟩
  | initNegated p => exact ⟨_, rfl, rfl, fun _ => rfl, fun _ _ _ => rfl⟩
  | reset p value =>
    obtain ⟨pending, settings, windows⟩ := portReset_frame p s
    exact framed_of_windowWrite (.inl rfl) rfl pending windows settings
  | go p value =>
    refine framed_of_windowWrite (p := p) (.inl rfl) rfl ?_ (fun q h => ?_) ?_ <;> dsimp only <;> split
    · rfl
    · rfl
    · exact PortMap.get_set_ne _ _ _ _ h
    · exact PortMap.get_set_ne _ _ _ _ h
    · rfl
    · rfl
  | stagingWordWrite p offset value =>
    refine framed_of_windowWrite (p := p) (.inl rfl) rfl ?_ (fun q h => ?_) ?_ <;> dsimp only <;> split
    · rfl
    · rfl
    · exact PortMap.get_set_ne _ _ _ _ h
    · rfl
    · rfl
    · rfl
  | statusWordWrite p value =>
    exact framed_of_windowWrite (.inl rfl) rfl rfl (fun q h => PortMap.get_set_ne _ _ _ _ h) rfl
  | interruptEnableWordWrite p value => exact framed_of_windowWrite (p := p) (.inr rfl) rfl rfl (fun _ _ => rfl) rfl
  | windowBaseWordWrite p value => exact framed_of_windowWrite (p := p) (.inr rfl) rfl rfl (fun _ _ => rfl) rfl
  | responseWord0Read p =>
    exact ⟨_, rfl, rfl, fun _ => rfl, fun q h _ => PortMap.get_set_ne _ _ _ _ fun e => h (congrArg some e.symm)⟩
  | completionPop p value => exact framed_of_windowWrite (p := p) (.inr rfl) rfl rfl (fun _ _ => rfl) rfl
  | noticePop p value => exact framed_of_windowWrite (p := p) (.inr rfl) rfl rfl (fun _ _ => rfl) rfl
  | read p => exact framed_of_decided rfl rfl fun _ => locksAndWork_of_workOnly (decideTransfer_workOnly p _ s)
  | write p => exact framed_of_decided rfl rfl fun _ => locksAndWork_of_workOnly (decideTransfer_workOnly p _ s)
  | verify p => exact framed_of_decided rfl rfl fun _ => locksAndWork_of_workOnly (decideTransfer_workOnly p _ s)
  | formatTrack p => exact framed_of_decided rfl rfl fun _ => locksAndWork_of_workOnly (decideTransfer_workOnly p _ s)
  | cancel p => exact framed_of_decided rfl rfl fun _ => locksAndWork_of_workOnly (decideCancel_workOnly p _ s)
  | acquire p => exact framed_of_decided rfl rfl fun _ => locksAndWork_of_locksOnly (decideAcquire_locksOnly p _ s)
  | renew p => exact framed_of_decided rfl rfl fun _ => locksAndWork_of_locksOnly (decideRenew_locksOnly p _ s)
  | release p => exact framed_of_decided rfl rfl fun _ => locksAndWork_of_locksOnly (decideRelease_locksOnly p _ s)
  | forceRelease p => exact framed_of_decided rfl rfl fun _ => decideForceRelease_locksAndWork p _ s
  | withdraw p => exact framed_of_decided rfl rfl fun _ => locksAndWork_of_locksOnly (decideWithdraw_locksOnly p _ s)
  | watch p =>
    exact framed_of_taken (p := p) rfl rfl (fun _ => by rw [decideWatch_eq]; rfl) (fun _ => by rw [decideWatch_eq]; rfl)
      fun _ _ => by rw [decideWatch_eq]; rfl
  | unwatch p =>
    exact framed_of_taken (p := p) rfl rfl (fun _ => by rw [decideUnwatch_eq]; rfl) (fun _ => by rw [decideUnwatch_eq]; rfl)
      fun _ _ => by rw [decideUnwatch_eq]; rfl
  | claimToken p =>
    exact framed_of_taken (p := p) rfl rfl (fun _ => by rw [decideClaimToken_eq]; rfl) (fun _ => by rw [decideClaimToken_eq]; rfl)
      fun _ _ => by rw [decideClaimToken_eq]; rfl
  | releaseToken p =>
    exact framed_of_taken (p := p) rfl rfl (fun _ => by rw [decideReleaseToken_eq]; rfl)
      (fun _ => by rw [decideReleaseToken_eq]; rfl) fun _ _ => by rw [decideReleaseToken_eq]; rfl
  | setSetting p =>
    exact framed_of_taken (p := p) rfl rfl (fun _ => by rw [decideSetSetting_eq]; rfl) (fun _ => by rw [decideSetSetting_eq]; rfl)
      fun h => Bool.noConfusion h
  | readSettings p => exact framed_of_decided (p := p) rfl rfl fun _ => locksAndWork_refl s
  | unknownCommand p => exact framed_of_decided (p := p) rfl rfl fun _ => locksAndWork_refl s
  | leaseTick => exact framed_of_locksAndWork (exec_leaseTick_locksAndWork s)
  | leaseExpiry i =>
    refine framed_of_locksAndWork ⟨_, rfl, ?_⟩
    split
    · exact locksAndWork_trans (tickLease_locksAndWork s _)
        (locksAndWork_trans (reexamine_locksAndWork _) (locksAndWork_of_workOnly (settle_workOnly _)))
    · exact locksAndWork_refl s
  | waitDenial slot =>
    refine framed_of_locksAndWork ⟨_, rfl, ?_⟩
    split
    · exact locksAndWork_refl s
    · split
      · exact locksAndWork_trans (locksAndWork_of_locksOnly (denyWaiter_locksOnly _ s)) (reexamine_locksAndWork _)
      · exact locksAndWork_refl s
  | posting p =>
    obtain ⟨pending, windows, settings⟩ := postRecord_frame p s
    exact ⟨_, rfl, pending, fun _ => settings, fun q _ _ => congrArg (PortMap.get · q) windows⟩
  | writeReport =>
    unfold Framed exec execWriteReport
    refine ⟨_, rfl, ?_⟩
    split
    · exact ⟨rfl, fun _ => rfl, fun _ _ _ => rfl⟩
    · rw [reportToPorts_eq]
      exact ⟨rfl, fun _ => rfl, fun _ _ _ => rfl⟩
  | risingReady wp => exact framed_of_workOnly (exec_risingReady_workOnly wp s)
  | fallingReady wp => exact framed_of_workOnly (exec_fallingReady_workOnly wp s)
  | index wp => exact framed_of_workOnly (exec_index_workOnly wp s)
  | blockMark wp => exact framed_of_workOnly (exec_blockMark_workOnly wp s)
  | headerRead wp field => exact framed_of_workOnly (exec_headerRead_workOnly wp field s)
  | dataFieldEnd wp field => exact framed_of_workOnly (exec_dataFieldEnd_workOnly wp field s)
  | seekDone wp => exact framed_of_workOnly (exec_seekDone_workOnly wp s)
  | positioningTimeLimit => exact framed_of_workOnly (exec_positioningTimeLimit_workOnly s)
  | settleExpiry => exact framed_of_workOnly (exec_settleExpiry_workOnly s)
  | faultHoldExpiry => exact framed_of_workOnly (exec_faultHoldExpiry_workOnly s)
  | busGrant p => exact framed_of_workOnly (exec_busGrant_workOnly p s)
  | burstEnd p words => exact framed_of_workOnly (exec_burstEnd_workOnly p words s)
  | hostBusTimeout p => exact framed_of_workOnly (exec_hostBusTimeout_workOnly p s)

/-- Settles O1: both clauses are the two equations of a step. -/
theorem stepTakesTheFrontCommand : Obligations.StepTakesTheFrontCommand :=
  ⟨fun c rest s h => by simp only [step, h], fun s h => by simp only [step, h]⟩

/-- Settles O2, by the frame of every command. -/
theorem everyCommandCompletes : Obligations.EveryCommandCompletes := fun c s => by
  obtain ⟨t, next, pending, _⟩ := exec_framed c s
  exact ⟨t, next, pending⟩

/-- Settles O13, by the frame of every command. -/
theorem commandsKeepToTheirPort : Obligations.CommandsKeepToTheirPort := by
  constructor
  · intro c q s other notReset
    obtain ⟨t, next, _, _, windows⟩ := exec_framed c s
    exact ⟨t, next, windows q other notReset⟩
  · intro c s h
    obtain ⟨t, next, _, settings, _⟩ := exec_framed c s
    exact ⟨t, next, settings h⟩

end Sys2Proof.Machine
end

section
/-! The Lock Table and the Lock Wait Queue: reads after writes, what one turn and one pass of a re-examination do, and that one pass
leaves no waiter grantable beside a FREE entry (R16, R17, R45 to R47). -/

namespace Sys2Proof.Machine

open Sys2Proof.Safety

/-! ### Entries -/

theorem lockAt_congr {s t : State} (h : t.locks = s.locks) (i : Nat) : lockAt t i = lockAt s i := by
  simp only [lockAt, h]

theorem lockAt_of_length_le {s : State} {i : Nat} (h : s.locks.length ≤ i) : lockAt s i = ⟨0, .free⟩ := by
  simp [lockAt, List.getD_eq_getElem?_getD, List.getElem?_eq_none h]

theorem lockAt_of_getElem? {s : State} {i : Nat} {e : LockEntry} (h : s.locks[i]? = some e) : lockAt s i = e := by
  simp [lockAt, List.getD_eq_getElem?_getD, h]

/-- An entry of the table is FREE or one of the listed entries. -/
theorem lockAt_mem_or (s : State) (i : Nat) : lockAt s i ∈ s.locks ∨ lockAt s i = ⟨0, .free⟩ := by
  rcases Nat.lt_or_ge i s.locks.length with h | h
  · left
    simp [lockAt, List.getD_eq_getElem?_getD, h]
  · exact .inr (lockAt_of_length_le h)

theorem lockAt_setLockState (i : Nat) (state : LockState) (s : State) (j : Nat) :
    lockAt (setLockState i state s) j =
      if j = i ∧ i < s.locks.length then ⟨(lockAt s i).generation, state⟩ else lockAt s j := by
  rcases Nat.lt_or_ge i s.locks.length with h | h
  · by_cases e : j = i
    · subst e
      rw [if_pos ⟨rfl, h⟩]
      exact lockAt_set_self h _
    · rw [if_neg fun k => e k.1]
      exact lockAt_set_ne (Ne.symm e) _
  · rw [if_neg fun k => absurd k.2 (Nat.not_lt.mpr h)]
    exact lockAt_congr (List.set_eq_of_length_le h) j

theorem lockAt_allocateLock {i : Nat} {s : State} (h : i < s.locks.length) (lock : Lock) (grant : Grant) (j : Nat) :
    lockAt (allocateLock i lock grant s) j =
      if j = i then ⟨nextGeneration (lockAt s i).generation, .held lock grant⟩ else lockAt s j := by
  by_cases e : j = i
  · subst e
    rw [if_pos rfl]
    exact lockAt_set_self h _
  · rw [if_neg e]
    exact lockAt_set_ne (Ne.symm e) _

theorem mem_heldLocks {s : State} {x : Lock} : x ∈ heldLocks s ↔ ∃ i, (lockAt s i).heldLock = some x := by
  rw [heldLocks, List.mem_filterMap]
  constructor
  · rintro ⟨e, mem, held⟩
    obtain ⟨i, at_i⟩ := List.mem_iff_getElem?.mp mem
    exact ⟨i, by rw [lockAt_of_getElem? at_i, held]⟩
  · rintro ⟨i, held⟩
    rcases lockAt_mem_or s i with mem | free
    · exact ⟨_, mem, held⟩
    · rw [free] at held
      cases held

theorem conflictsWithHeld_iff {s : State} {lock : Lock} :
    conflictsWithHeld s lock = true ↔ ∃ i x, (lockAt s i).heldLock = some x ∧ lock.conflicts x = true := by
  simp only [conflictsWithHeld, List.any_eq_true, mem_heldLocks]
  exact ⟨fun ⟨x, ⟨i, held⟩, c⟩ => ⟨i, x, held, c⟩, fun ⟨i, x, held, c⟩ => ⟨x, ⟨i, held⟩, c⟩⟩

theorem lowestFreeLock_some {s : State} {i : Nat} (h : lowestFreeLock s = some i) :
    i < s.locks.length ∧ (lockAt s i).state = .free := by
  obtain ⟨lt, free, _⟩ := List.findIdx?_eq_some_iff_getElem.mp h
  refine ⟨lt, ?_⟩
  rw [lockAt_of_getElem? (List.getElem?_eq_getElem lt)]
  exact of_decide_eq_true free

theorem lowestFreeLock_none_iff {s : State} : lowestFreeLock s = none ↔ ∀ e ∈ s.locks, e.state ≠ .free := by
  simp [lowestFreeLock, List.findIdx?_eq_none_iff, LockEntry.isFree]

theorem lowestFreeLock_eq_some {s : State} {i : Nat} (free : ∃ e, s.locks[i]? = some e ∧ e.state = .free)
    (lower : ∀ j e, j < i → s.locks[j]? = some e → e.state ≠ .free) : lowestFreeLock s = some i := by
  obtain ⟨e, at_i, isFree⟩ := free
  obtain ⟨lt, rfl⟩ := List.getElem?_eq_some_iff.mp at_i
  refine List.findIdx?_eq_some_iff_getElem.mpr ⟨lt, decide_eq_true isFree, fun j hj => ?_⟩
  simpa [LockEntry.isFree] using lower j _ hj (List.getElem?_eq_getElem (Nat.lt_trans hj lt))

theorem free_heldLock {e : LockEntry} (h : e.state = .free) : e.heldLock = none := by
  simp [LockEntry.heldLock, h]

theorem overlaps_comm (x y : Extent) : x.overlaps y = y.overlaps x := Bool.and_comm _ _

theorem conflicts_comm (x y : Lock) : x.conflicts y = y.conflicts x := by
  simp only [Lock.conflicts, Lock.bars, overlaps_comm x.extent, Bool.or_comm (decide (x.mode = .exclusive)), ne_comm (a := x.owner)]

/-! ### One turn and one pass of a re-examination -/

/-- What turns of the waiters `ws` may do: grant some of them FREE entries and take them from the queue. -/
structure GrantedFrom (ws : List Waiter) (s t : State) : Prop where
  locks : ∀ i, LeftOrGranted ws (lockAt s i) (lockAt t i)
  waiters : t.waiters.Sublist s.waiters
  pendingRecords : ∀ p, ∃ granted, t.pendingRecords.get p = s.pendingRecords.get p ++ granted ∧
    ∀ item ∈ granted, ∃ i, item = .lock i

theorem leftOrGranted_trans {ws : List Waiter} {x y z : LockEntry} (h : LeftOrGranted ws x y) (k : LeftOrGranted ws y z) :
    LeftOrGranted ws x z := by
  rcases h with rfl | ⟨free, w, mem, rfl⟩
  · exact k
  · rcases k with rfl | ⟨impossible, _⟩
    · exact .inr ⟨free, w, mem, rfl⟩
    · cases impossible

/-- An entry that is not FREE is left by a re-examination. -/
theorem leftOrGranted_eq_of_not_free {ws : List Waiter} {x y : LockEntry} (h : LeftOrGranted ws x y) (k : x.state ≠ .free) :
    y = x := by
  rcases h with rfl | ⟨free, _⟩
  · rfl
  · exact absurd free k

theorem leftOrGranted_mono {ws vs : List Waiter} {x y : LockEntry} (sub : ∀ w ∈ ws, ∃ v ∈ vs, v.lock = w.lock)
    (h : LeftOrGranted ws x y) : LeftOrGranted vs x y := by
  rcases h with rfl | ⟨free, w, mem, rfl⟩
  · exact .inl rfl
  · obtain ⟨v, hv, lock⟩ := sub w mem
    exact .inr ⟨free, v, hv, by rw [lock]⟩

theorem grantedFrom_refl (ws : List Waiter) (s : State) : GrantedFrom ws s s :=
  ⟨fun _ => .inl rfl, List.Sublist.refl _, fun _ => ⟨[], (List.append_nil _).symm, nofun⟩⟩

theorem grantedFrom_trans {ws : List Waiter} {s t u : State} (h : GrantedFrom ws s t) (k : GrantedFrom ws t u) :
    GrantedFrom ws s u := by
  refine ⟨fun i => leftOrGranted_trans (h.locks i) (k.locks i), k.waiters.trans h.waiters, fun p => ?_⟩
  obtain ⟨x, hx, locksX⟩ := h.pendingRecords p
  obtain ⟨y, hy, locksY⟩ := k.pendingRecords p
  exact ⟨x ++ y, by rw [hy, hx, List.append_assoc], fun item mem => (List.mem_append.mp mem).elim (locksX item) (locksY item)⟩

theorem grantWaiter_grantedFrom {ws : List Waiter} {w : Waiter} (mem : w ∈ ws) (s : State) :
    GrantedFrom ws s (grantWaiter s w) := by
  rcases grantWaiter_cases s w with h | ⟨i, _, lowest, h⟩
  · rw [h]
    exact grantedFrom_refl ws s
  · rw [h]
    obtain ⟨lt, free⟩ := lowestFreeLock_some lowest
    refine ⟨fun j => ?_, List.filter_sublist, fun p => ?_⟩
    · rw [show lockAt (removeWaiter w.slot (joinPending w.lock.owner (.lock i) (allocateLock i w.lock .unreported s))) j =
        lockAt (allocateLock i w.lock .unreported s) j from rfl, lockAt_allocateLock lt]
      split
      · next e => subst e; exact .inr ⟨free, w, mem, rfl⟩
      · exact .inl rfl
    · show ∃ granted, (s.pendingRecords.set w.lock.owner (s.pendingRecords.get w.lock.owner ++ [OwnerRef.lock i])).get p = _ ∧ _
      rw [PortMap.get_set]
      split
      · next e => subst e; exact ⟨[.lock i], rfl, fun item mem => ⟨i, List.mem_singleton.mp mem⟩⟩
      · exact ⟨[], (List.append_nil _).symm, nofun⟩

theorem foldl_grantWaiter_grantedFrom {ws : List Waiter} (l : List Waiter) (sub : ∀ w ∈ l, w ∈ ws) (s : State) :
    GrantedFrom ws s (l.foldl grantWaiter s) := by
  induction l generalizing s with
  | nil => exact grantedFrom_refl ws s
  | cons w l ih =>
    exact grantedFrom_trans (grantWaiter_grantedFrom (sub w List.mem_cons_self) s)
      (ih (fun v hv => sub v (List.mem_cons_of_mem w hv)) _)

theorem reexamine_grantedFrom (s : State) : GrantedFrom s.waiters s (reexamine s) :=
  foldl_grantWaiter_grantedFrom s.waiters (fun _ h => h) s

/-- A re-examination grants into FREE entries alone and keeps the order of the waiters that stay (R45, R47). -/
theorem reexamine_reexamined (s : State) : Reexamined s (reexamine s) :=
  have h := reexamine_grantedFrom s
  ⟨h.locks, h.waiters, h.pendingRecords, reexamine_locksOnly s⟩

theorem slotsDistinct_of_sublist {s t : State} (h : (t.waiters.map Waiter.slot).Sublist (s.waiters.map Waiter.slot))
    (k : SlotsDistinct s) : SlotsDistinct t := by
  obtain ⟨nodup, bound⟩ := k
  refine ⟨h.nodup nodup, fun w mem => ?_⟩
  obtain ⟨v, hv, slot⟩ := List.mem_map.mp (h.subset (List.mem_map_of_mem mem))
  exact slot ▸ bound v hv

theorem reexamine_slotsDistinct {s : State} (h : SlotsDistinct s) : SlotsDistinct (reexamine s) :=
  slotsDistinct_of_sublist ((reexamine_grantedFrom s).waiters.map _) h

/-! ### One pass suffices -/

theorem takeWhile_slot_append {w : Waiter} {kept : List Waiter} (mem : w ∈ kept) (rest : List Waiter) :
    (kept ++ rest).takeWhile (fun v => decide (v.slot ≠ w.slot)) = kept.takeWhile (fun v => decide (v.slot ≠ w.slot)) := by
  induction kept with
  | nil => cases mem
  | cons v kept ih =>
    by_cases e : v.slot = w.slot
    · simp [e]
    · have later : w ∈ kept := (List.mem_cons.mp mem).resolve_left fun h => e (congrArg Waiter.slot h).symm
      simp only [List.cons_append, List.takeWhile_cons, e, ne_eq, not_false_eq_true, decide_true, if_true, ih later]

/-- The waiters of a queue with distinct slots that stay when the one of a slot leaves. -/
theorem filter_slot_append {kept rest : List Waiter} {w : Waiter} (distinct : ((kept ++ w :: rest).map Waiter.slot).Nodup) :
    (kept ++ w :: rest).filter (fun v => decide (v.slot ≠ w.slot)) = kept ++ rest := by
  simp only [List.map_append, List.map_cons, List.nodup_append, List.nodup_cons, List.mem_map, List.mem_cons] at distinct
  obtain ⟨_, ⟨notRest, _⟩, apart⟩ := distinct
  have keptStay : kept.filter (fun v => decide (v.slot ≠ w.slot)) = kept :=
    List.filter_eq_self.mpr fun v hv => decide_eq_true (apart _ ⟨v, hv, rfl⟩ _ (.inl rfl))
  have restStay : rest.filter (fun v => decide (v.slot ≠ w.slot)) = rest :=
    List.filter_eq_self.mpr fun v hv => decide_eq_true fun e => notRest ⟨v, hv, e⟩
  rw [List.filter_append, keptStay, List.filter_cons_of_neg (by simp), restStay]

/-- A lock in effect stays in effect at the turn of a waiter, so a claim in conflict stays so. -/
theorem conflictsWithHeld_mono {ws : List Waiter} {s t : State} (h : GrantedFrom ws s t) {lock : Lock}
    (c : conflictsWithHeld s lock = true) : conflictsWithHeld t lock = true := by
  obtain ⟨i, x, held, conflict⟩ := conflictsWithHeld_iff.mp c
  refine conflictsWithHeld_iff.mpr ⟨i, x, ?_, conflict⟩
  have notFree : (lockAt s i).state ≠ .free := fun free => by
    rw [free_heldLock free] at held
    cases held
  rw [leftOrGranted_eq_of_not_free (h.locks i) notFree, held]

/-- A waiter that a turn has passed over is not made grantable by the turns of the younger ones: they only add locks, and leave the
waiters ahead of it. -/
theorem grantable_of_later_turn {ws : List Waiter} {s t : State} {kept rest rest' : List Waiter} {w : Waiter} (mem : w ∈ kept)
    (before : s.waiters = kept ++ rest) (after : t.waiters = kept ++ rest') (turn : GrantedFrom ws s t)
    (h : grantable t w = true) : grantable s w = true := by
  have older : olderWaiters t w = olderWaiters s w := by
    rw [olderWaiters, olderWaiters, before, after, takeWhile_slot_append mem, takeWhile_slot_append mem]
  simp only [grantable, Bool.and_eq_true, Bool.not_eq_true', older] at h ⊢
  obtain ⟨⟨waiting, free⟩, unbarred⟩ := h
  refine ⟨⟨waiting, ?_⟩, unbarred⟩
  by_contra c
  rw [conflictsWithHeld_mono turn (by simpa using c)] at free
  cases free

theorem foldl_grantWaiter_noneLeft (rest kept : List Waiter) (s : State) (queue : s.waiters = kept ++ rest)
    (distinct : (s.waiters.map Waiter.slot).Nodup) (passed : ∀ w ∈ kept, grantable s w = true → lowestFreeLock s = none) :
    ∀ w ∈ (rest.foldl grantWaiter s).waiters, grantable (rest.foldl grantWaiter s) w = true →
      lowestFreeLock (rest.foldl grantWaiter s) = none := by
  induction rest generalizing kept s with
  | nil =>
    rw [List.foldl_nil, queue, List.append_nil]
    exact passed
  | cons w rest ih =>
    rw [List.foldl_cons]
    rcases grantWaiter_cases s w with stays | ⟨i, _, lowest, granted⟩
    · rw [stays]
      refine ih (kept ++ [w]) s (by rw [queue, List.append_assoc, List.singleton_append]) distinct fun v hv able => ?_
      rcases List.mem_append.mp hv with hv | hv
      · exact passed v hv able
      · rw [List.mem_singleton.mp hv] at able
        cases lowest : lowestFreeLock s with
        | none => rfl
        | some i =>
          have removed : w ∉ (grantWaiter s w).waiters := by
            simp [grantWaiter, able, lowest, removeWaiter, State.withWaiters]
          rw [stays, queue] at removed
          simp at removed
    · have turn := grantWaiter_grantedFrom (List.mem_singleton_self w) s
      have queue' : (grantWaiter s w).waiters = kept ++ rest := by
        rw [granted]
        show s.waiters.filter _ = _
        rw [queue]
        exact filter_slot_append (queue ▸ distinct)
      refine ih kept _ queue' ((turn.waiters.map _).nodup distinct) fun v hv able => ?_
      have full := passed v hv (grantable_of_later_turn hv queue queue' turn able)
      rw [lowest] at full
      cases full

/-- One pass suffices (R45). -/
theorem reexamine_noneLeftGrantable {s : State} (h : SlotsDistinct s) : NoneLeftGrantable (reexamine s) :=
  ⟨reexamine_slotsDistinct h, foldl_grantWaiter_noneLeft s.waiters [] s rfl h.1 nofun⟩

/-- Settles O24: what a re-examination may do, and the pass over the waiters in arrival order. -/
theorem onePassSuffices : Obligations.OnePassSuffices := fun s distinct =>
  ⟨reexamine_reexamined s, (reexamine_noneLeftGrantable distinct).2⟩

end Sys2Proof.Machine
end

section
/-! What a step can do to the Lock Table and the Lock Wait Queue, said once: every command takes a path of five kinds of change. From
that, the locks stay compatible (R19) and no waiter is left grantable (R44, R45). -/

namespace Sys2Proof.Machine

open Sys2Proof.Safety

/-! ### The kinds of change -/

/-- Locks or waiters may have gone, and none has come: the change that a re-examination follows. -/
structure Relaxed (s t : State) : Prop where
  length : t.locks.length = s.locks.length
  generation : ∀ i, (lockAt t i).generation = (lockAt s i).generation
  held : ∀ i x, (lockAt t i).heldLock = some x → (lockAt s i).heldLock = some x
  slots : (t.waiters.map Waiter.slot).Sublist (s.waiters.map Waiter.slot)

/-- Leases, reports and waits may have changed, and nothing that a grant depends on. -/
structure Adjusted (s t : State) : Prop where
  length : t.locks.length = s.locks.length
  generation : ∀ i, (lockAt t i).generation = (lockAt s i).generation
  held : ∀ i, (lockAt t i).heldLock = (lockAt s i).heldLock
  free : ∀ i, (lockAt t i).state = .free ↔ (lockAt s i).state = .free
  waiters : SlotsDistinct s → ∃ f : Waiter → Waiter, t.waiters = s.waiters.map f ∧ (∀ w, (f w).slot = w.slot ∧ (f w).lock = w.lock) ∧
    ∀ w ∈ s.waiters, (f w).isWaiting = w.isWaiting

/-- The ways from the locks and waiters of one state to those of another that the commands take. -/
inductive LockPath : State → State → Prop
  | same {s t : State} (locks : t.locks = s.locks) (waiters : t.waiters = s.waiters) : LockPath s t
  | adjusted {s t : State} (h : Adjusted s t) : LockPath s t
  | powerOn {s t : State} (locks : t.locks = State.reset.locks) (waiters : t.waiters = []) : LockPath s t
  | claimed (lock : Lock) (limit : Nat) {s : State} : LockPath s (decideClaim lock limit s).state
  | reexamined {s t : State} (h : Relaxed s t) : LockPath s (reexamine t)
  | trans {s t u : State} (h : LockPath s t) (k : LockPath t u) : LockPath s u

theorem relaxed_of_same {s t : State} (locks : t.locks = s.locks) (waiters : t.waiters = s.waiters) : Relaxed s t :=
  ⟨by rw [locks], fun i => by rw [lockAt_congr locks], fun i x h => by rwa [lockAt_congr locks] at h, by rw [waiters]⟩

theorem relaxed_of_workOnly {s t : State} (h : WorkOnly s t) : Relaxed s t := relaxed_of_same h.locks h.waiters

theorem relaxed_trans {s t u : State} (h : Relaxed s t) (k : Relaxed t u) : Relaxed s u :=
  ⟨k.length.trans h.length, fun i => (k.generation i).trans (h.generation i), fun i x held => h.held i x (k.held i x held),
    k.slots.trans h.slots⟩

theorem foldl_relaxed {α : Type} (f : State → α → State) (h : ∀ s x, Relaxed s (f s x)) (l : List α) (s : State) :
    Relaxed s (l.foldl f s) := by
  induction l generalizing s with
  | nil => exact relaxed_of_same rfl rfl
  | cons x l ih => exact relaxed_trans (h s x) (ih (f s x))

theorem adjusted_of_same {s t : State} (locks : t.locks = s.locks) (waiters : t.waiters = s.waiters) : Adjusted s t :=
  ⟨by rw [locks], fun i => by rw [lockAt_congr locks], fun i => by rw [lockAt_congr locks], fun i => by rw [lockAt_congr locks],
    fun _ => ⟨id, by rw [waiters, List.map_id], fun _ => ⟨rfl, rfl⟩, fun _ _ => rfl⟩⟩

theorem adjusted_slots {s t : State} (h : Adjusted s t) (distinct : SlotsDistinct s) :
    t.waiters.map Waiter.slot = s.waiters.map Waiter.slot := by
  obtain ⟨f, map, keeps, _⟩ := h.waiters distinct
  rw [map, List.map_map]
  exact List.map_congr_left fun w _ => (keeps w).1

theorem adjusted_trans {s t u : State} (h : Adjusted s t) (k : Adjusted t u) : Adjusted s u := by
  refine ⟨k.length.trans h.length, fun i => (k.generation i).trans (h.generation i), fun i => (k.held i).trans (h.held i),
    fun i => (k.free i).trans (h.free i), fun distinct => ?_⟩
  obtain ⟨f, mapF, keepsF, waitingF⟩ := h.waiters distinct
  obtain ⟨g, mapG, keepsG, waitingG⟩ :=
    k.waiters (slotsDistinct_of_sublist (adjusted_slots h distinct ▸ List.Sublist.refl _) distinct)
  refine ⟨g ∘ f, by rw [mapG, mapF, List.map_map],
    fun w => ⟨(keepsG _).1.trans (keepsF w).1, (keepsG _).2.trans (keepsF w).2⟩, fun w mem => ?_⟩
  exact (waitingG _ (mapF ▸ List.mem_map_of_mem mem)).trans (waitingF w mem)

/-! ### The operations of the Lock Unit, by kind -/

theorem heldLock_held (g : Nat) (lock : Lock) (grant : Grant) : (⟨g, .held lock grant⟩ : LockEntry).heldLock = some lock := rfl

theorem heldLock_of_state {e : LockEntry} {lock : Lock} {grant : Grant} (h : e.state = .held lock grant) :
    e.heldLock = some lock := by
  simp [LockEntry.heldLock, h]

/-- An entry that leaves HELD, or keeps its lock, relaxes the table. -/
theorem setLockState_relaxed {i : Nat} {state : LockState} {s : State}
    (h : ∀ x, (⟨(lockAt s i).generation, state⟩ : LockEntry).heldLock = some x → (lockAt s i).heldLock = some x) :
    Relaxed s (setLockState i state s) := by
  refine ⟨List.length_set, fun j => ?_, fun j x held => ?_, List.Sublist.refl _⟩
  · rw [lockAt_setLockState]
    split
    · next e => rw [e.1]
    · rfl
  · rw [lockAt_setLockState] at held
    split at held
    · next e => rw [e.1]; exact h x held
    · exact held

/-- A HELD entry whose lease or report changes is adjusted. -/
theorem setLockState_held_adjusted {i : Nat} {lock : Lock} {before after : Grant} {s : State}
    (h : (lockAt s i).state = .held lock before) : Adjusted s (setLockState i (.held lock after) s) := by
  refine ⟨List.length_set, fun j => ?_, fun j => ?_, fun j => ?_, (adjusted_of_same rfl rfl).waiters⟩ <;>
    rw [lockAt_setLockState] <;> split
  · next e => rw [e.1]
  · rfl
  · next e => rw [e.1, heldLock_of_state h, heldLock_held]
  · rfl
  · next e => rw [e.1, h]; exact iff_of_false nofun nofun
  · rfl

theorem setLockState_ended_relaxed (i : Nat) (lock : Lock) (kind : EndKind) (s : State) :
    Relaxed s (setLockState i (.ended lock kind) s) :=
  setLockState_relaxed fun _ h => by cases h

theorem setLockState_free_relaxed (i : Nat) (s : State) : Relaxed s (setLockState i .free s) :=
  setLockState_relaxed fun _ h => by cases h

theorem forceUnreported_relaxed (i : Nat) (lock : Lock) (s : State) : Relaxed s (forceUnreported i lock s) :=
  relaxed_trans (setLockState_ended_relaxed i lock _ s)
    (relaxed_of_workOnly (workOnly_trans (lockCessation_workOnly _ _ _) (cessationStop_workOnly _ _)))

theorem ceaseLock_relaxed (i : Nat) (lock : Lock) (kind : EndKind) (s : State) : Relaxed s (ceaseLock i lock kind s) :=
  relaxed_trans (setLockState_ended_relaxed i lock _ s)
    (relaxed_of_workOnly
      (workOnly_trans (workOnly_trans (lockCessation_workOnly _ _ _) (joinPending_workOnly _ _ _)) (cessationStop_workOnly _ _)))

theorem relaxed_of_adjusted_locks {s t : State} (h : Adjusted s t) (waiters : t.waiters = s.waiters) : Relaxed s t :=
  ⟨h.length, h.generation, fun i x held => h.held i ▸ held, by rw [waiters]⟩

theorem tickLease_relaxed (s : State) (i : Nat) : Relaxed s (tickLease s i) := by
  unfold tickLease
  split
  · next lock lease state =>
    split
    · exact ceaseLock_relaxed _ _ _ s
    · exact relaxed_of_adjusted_locks (setLockState_held_adjusted state) rfl
  · exact relaxed_of_same rfl rfl

theorem tickLease_adjusted {s : State} {i : Nat} (h : (lockAt s i).expiring = false) : Adjusted s (tickLease s i) := by
  unfold tickLease
  split
  · next lock lease state =>
    split
    · next ends => simp [LockEntry.expiring, state, ends] at h
    · exact setLockState_held_adjusted state
  · exact adjusted_of_same rfl rfl

theorem removeWaiter_relaxed (slot : Nat) (s : State) : Relaxed s (removeWaiter slot s) :=
  ⟨rfl, fun _ => rfl, fun _ _ h => h, List.filter_sublist.map _⟩

theorem sublist_of_eq {α : Type} {l l' : List α} (h : l = l') : l.Sublist l' := h ▸ List.Sublist.refl l

/-- A change of states alone leaves the slots of the waiters. -/
theorem map_slot_of_state (f : Waiter → Prop) [DecidablePred f] (state : Waiter → WaiterState) (l : List Waiter) :
    (l.map fun v => if f v then { v with state := state v } else v).map Waiter.slot = l.map Waiter.slot := by
  rw [List.map_map]
  refine List.map_congr_left fun v _ => ?_
  simp only [Function.comp]
  split <;> rfl

theorem denyWaiter_relaxed (w : Waiter) (s : State) : Relaxed s (denyWaiter w s) :=
  ⟨rfl, fun _ => rfl, fun _ _ h => h, sublist_of_eq (map_slot_of_state (fun v => v.slot = w.slot) (fun _ => .denied) _)⟩

theorem tickWaiter_relaxed (s : State) (w : Waiter) : Relaxed s (tickWaiter s w) := by
  unfold tickWaiter
  split
  · next n _ =>
    split
    · exact denyWaiter_relaxed w s
    · exact ⟨rfl, fun _ => rfl, fun _ _ h => h,
        sublist_of_eq (map_slot_of_state (fun v => v.slot = w.slot) (fun _ => .waiting (some (n - 1))) _)⟩
  · exact relaxed_of_same rfl rfl

theorem tickWaiters_relaxed (s : State) : Relaxed s (tickWaiters s) := foldl_relaxed _ tickWaiter_relaxed _ s

theorem lockAt_resetLocks (p : Port) (s : State) (i : Nat) : lockAt (resetLocks p s) i = (lockAt s i).resetPort p := by
  show (s.locks.map (LockEntry.resetPort p)).getD i ⟨0, .free⟩ = _
  simp only [lockAt, List.getD_eq_getElem?_getD, List.getElem?_map]
  cases s.locks[i]? <;> rfl

theorem resetLocks_relaxed (p : Port) (s : State) : Relaxed s (resetLocks p s) := by
  refine ⟨List.length_map _, fun i => ?_, fun i x => ?_, List.filter_sublist.map _⟩ <;> rw [lockAt_resetLocks] <;>
    unfold LockEntry.resetPort <;> split
  · rfl
  · split <;> rfl
  · split <;> rfl
  · exact id
  · split
    · exact nofun
    · exact id
  · split
    · exact nofun
    · exact id

/-! ### The waits counted down -/

/-- A waiter after one lease tick. -/
def tickedWaiter (w : Waiter) : Waiter := { w with state := tickedWait w.state }

/-- The turn of a waiter at a lease tick changes that waiter alone. -/
theorem tickWaiter_waiters (s : State) (w : Waiter) {done rest : List Waiter} (queue : s.waiters = done ++ w :: rest)
    (distinct : (s.waiters.map Waiter.slot).Nodup) :
    (tickWaiter s w).waiters = done ++ tickedWaiter w :: rest := by
  have others : ∀ v, v ∈ done ∨ v ∈ rest → v.slot ≠ w.slot := by
    rw [queue] at distinct
    simp only [List.map_append, List.map_cons, List.nodup_append, List.nodup_cons, List.mem_map, List.mem_cons] at distinct
    obtain ⟨_, ⟨notRest, _⟩, apart⟩ := distinct
    rintro v (mem | mem)
    · exact apart _ ⟨v, mem, rfl⟩ _ (.inl rfl)
    · exact fun e => notRest ⟨v, mem, e⟩
  have changed : ∀ state, s.waiters.map (fun v => if v.slot = w.slot then { v with state := state } else v) =
      done ++ { w with state := state } :: rest := fun state => by
    have stay : ∀ l : List Waiter, (∀ v ∈ l, v ∈ done ∨ v ∈ rest) →
        l.map (fun v => if v.slot = w.slot then { v with state := state } else v) = l := fun l sub =>
      (List.map_congr_left fun v mem => if_neg (others v (sub v mem))).trans (List.map_id' l)
    rw [queue, List.map_append, List.map_cons, stay done fun _ => .inl, stay rest fun _ => .inr, if_pos rfl]
  unfold tickWaiter tickedWaiter
  split
  · next n state =>
    split
    · next ends => exact (changed _).trans (by simp [state, tickedWait, ends])
    · next goesOn => exact (changed _).trans (by simp [state, tickedWait, goesOn])
  · next state =>
    have same : tickedWait w.state = w.state := by
      unfold tickedWait
      split
      · next n isWaiting => exact absurd isWaiting (state n)
      · rfl
    rw [same, queue]

theorem foldl_tickWaiter_waiters (rest done : List Waiter) (s : State) (queue : s.waiters = done ++ rest)
    (distinct : (s.waiters.map Waiter.slot).Nodup) :
    (rest.foldl tickWaiter s).waiters = done ++ rest.map tickedWaiter := by
  induction rest generalizing done s with
  | nil => exact queue
  | cons w rest ih =>
    have turn := tickWaiter_waiters s w queue distinct
    rw [List.foldl_cons, ih (done ++ [tickedWaiter w]) _ (by rw [turn, List.append_assoc, List.singleton_append])
      ((tickWaiter_relaxed s w).slots.nodup distinct), List.map_cons, List.append_assoc, List.singleton_append]

/-- Every wait is counted down by one (R48). -/
theorem tickWaiters_waiters {s : State} (distinct : SlotsDistinct s) :
    (tickWaiters s).waiters = s.waiters.map tickedWaiter :=
  foldl_tickWaiter_waiters s.waiters [] s rfl distinct.1

theorem tickWaiter_locks (s : State) (w : Waiter) : (tickWaiter s w).locks = s.locks := by
  unfold tickWaiter
  split
  · split <;> rfl
  · rfl

theorem tickWaiters_locks (s : State) : (tickWaiters s).locks = s.locks := by
  unfold tickWaiters
  generalize s.waiters = l
  induction l generalizing s with
  | nil => rfl
  | cons w l ih => exact (ih _).trans (tickWaiter_locks s w)

theorem tickedWaiter_isWaiting {w : Waiter} (h : w.expiring = false) : (tickedWaiter w).isWaiting = w.isWaiting := by
  unfold tickedWaiter tickedWait
  split
  · next n state =>
    split
    · next ends => simp [Waiter.expiring, state, ends] at h
    · simp [Waiter.isWaiting, state]
  · rfl

theorem tickWaiters_adjusted {s : State} (h : s.waiters.any Waiter.expiring = false) : Adjusted s (tickWaiters s) := by
  have entry := lockAt_congr (tickWaiters_locks s)
  exact ⟨by rw [tickWaiters_locks], fun i => by rw [entry], fun i => by rw [entry], fun i => by rw [entry], fun distinct =>
    ⟨tickedWaiter, tickWaiters_waiters distinct, fun _ => ⟨rfl, rfl⟩,
      fun w mem => tickedWaiter_isWaiting (by simpa using List.any_eq_false.mp h w mem)⟩⟩

theorem tickLease_waiters (s : State) (i : Nat) : (tickLease s i).waiters = s.waiters := by
  unfold tickLease
  split
  · split
    · exact (workOnly_trans (lockCessation_workOnly _ _ _)
        (workOnly_trans (joinPending_workOnly _ _ _) (cessationStop_workOnly _ _))).waiters
    · rfl
  · rfl

theorem ceaseLock_locks (i : Nat) (lock : Lock) (kind : EndKind) (s : State) :
    (ceaseLock i lock kind s).locks = (setLockState i (.ended lock kind) s).locks :=
  (workOnly_trans (lockCessation_workOnly _ _ _) (workOnly_trans (joinPending_workOnly _ _ _) (cessationStop_workOnly _ _))).locks

/-- The tick of one lease leaves the other entries. -/
theorem lockAt_tickLease_ne {s : State} {i j : Nat} (h : j ≠ i) : lockAt (tickLease s i) j = lockAt s j := by
  have stays : ∀ state, lockAt (setLockState i state s) j = lockAt s j := fun state => by
    rw [lockAt_setLockState, if_neg fun k => h k.1]
  unfold tickLease
  split
  · split
    · rw [lockAt_congr (ceaseLock_locks _ _ _ _), stays]
    · exact stays _
  · rfl

theorem foldl_tickLease_adjusted (l : List Nat) (nodup : l.Nodup) (s : State) (h : ∀ i ∈ l, (lockAt s i).expiring = false) :
    Adjusted s (l.foldl tickLease s) := by
  induction l generalizing s with
  | nil => exact adjusted_of_same rfl rfl
  | cons i l ih =>
    obtain ⟨notMem, nodup⟩ := List.nodup_cons.mp nodup
    refine adjusted_trans (tickLease_adjusted (h i List.mem_cons_self)) (ih nodup _ fun j mem => ?_)
    rw [lockAt_tickLease_ne fun e : j = i => notMem (e ▸ mem)]
    exact h j (List.mem_cons_of_mem i mem)

theorem lockAt_not_expiring {s : State} (h : s.locks.any LockEntry.expiring = false) (i : Nat) :
    (lockAt s i).expiring = false := by
  rcases lockAt_mem_or s i with mem | free
  · simpa using List.any_eq_false.mp h _ mem
  · rw [free]
    rfl

theorem tickLeases_adjusted {s : State} (h : s.locks.any LockEntry.expiring = false) : Adjusted s (tickLeases s) :=
  foldl_tickLease_adjusted _ List.nodup_range s fun i _ => lockAt_not_expiring h i

theorem tickLeases_relaxed (s : State) : Relaxed s (tickLeases s) := foldl_relaxed _ tickLease_relaxed _ s

/-! ### The path of a step -/

theorem lockPath_of_workOnly {s t : State} (h : WorkOnly s t) : LockPath s t := .same h.locks h.waiters

theorem lockPath_exec_workOnly {c : Instr} {s t : State} (h : ∃ t, exec c s = .next t ∧ WorkOnly s t) (next : exec c s = .next t) :
    LockPath s t := by
  obtain ⟨u, isNext, work⟩ := h
  rw [next] at isNext
  cases isNext
  exact lockPath_of_workOnly work

/-- A command in hand takes the path that its unit's decision takes. -/
theorem takeCommand_lockPath {p : Port} {owns : Byte → Bool} {decision : List Word → State → Answer} {s : State}
    (decided : ∀ command, LockPath s (decision command s).state) : LockPath s (takeCommand p owns decision s) := by
  unfold takeCommand
  split
  · exact .same rfl rfl
  · split
    · exact .same rfl rfl
    · split
      · exact .trans (decided _) (.same rfl rfl)
      · exact .same rfl rfl

theorem windowWrite_lockPath {p : Port} {effect : State → State} {s : State} (h : LockPath s (effect s)) :
    LockPath s (windowWrite p effect s) := by
  unfold windowWrite
  split
  · exact .same rfl rfl
  · exact h

theorem settled_lockPath {s t : State} (h : LockPath s t) : LockPath s (settle t) := h.trans (lockPath_of_workOnly (settle_workOnly t))

theorem decideAcquire_lockPath (p : Port) (command : List Word) (s : State) : LockPath s (decideAcquire p command s).state := by
  unfold decideAcquire
  dsimp only
  split
  · exact .same rfl rfl
  · exact .same rfl rfl
  · exact .claimed _ _

/-- The tests of a handle answer the HELD lock of its entry. -/
theorem handleTest_ok {h : Handle} {s : State} {lock : Lock} {grant : Grant} (ok : handleTest h s = .ok (lock, grant)) :
    (lockAt s h.index).state = .held lock grant := by
  unfold handleTest at ok
  split at ok
  · cases ok
  · next state =>
    split at ok
    · cases ok
      exact state
    · cases ok
  · split at ok <;> cases ok

theorem ownHandleTest_ok {p : Port} {h : Handle} {s : State} {lock : Lock} (ok : ownHandleTest p h s = .ok lock) :
    ∃ lease, (lockAt s h.index).state = .held lock (.reported lease) ∧ lock.owner = p := by
  unfold ownHandleTest at ok
  split at ok
  · cases ok
  · cases ok
  · next lock' lease tested =>
    split at ok
    · next owner =>
      cases ok
      exact ⟨lease, handleTest_ok tested, owner⟩
    · cases ok

theorem decideRenew_lockPath (p : Port) (h : Handle) (s : State) : LockPath s (decideRenew p h s).state := by
  unfold decideRenew
  split
  · exact .same rfl rfl
  · next ok =>
    obtain ⟨_, state, _⟩ := ownHandleTest_ok ok
    exact .adjusted (setLockState_held_adjusted state)

theorem decideRelease_lockPath (p : Port) (h : Handle) (s : State) : LockPath s (decideRelease p h s).state := by
  unfold decideRelease
  split
  · exact .same rfl rfl
  · split
    · exact .same rfl rfl
    · exact .reexamined (setLockState_free_relaxed _ s)

theorem decideForceRelease_lockPath (p : Port) (h : Handle) (s : State) : LockPath s (decideForceRelease p h s).state := by
  unfold decideForceRelease
  split
  · split
    · exact .same rfl rfl
    · exact settled_lockPath (.reexamined (ceaseLock_relaxed _ _ _ s))
    · exact settled_lockPath (.reexamined (forceUnreported_relaxed _ _ s))
  · exact .same rfl rfl

theorem decideWithdraw_lockPath (p : Port) (number : Nat) (s : State) : LockPath s (decideWithdraw p number s).state := by
  unfold decideWithdraw
  split
  · exact .same rfl rfl
  · split
    · exact .same rfl rfl
    · split
      · exact .reexamined (removeWaiter_relaxed _ s)
      · exact .same rfl rfl

theorem portReset_lockPath (p : Port) (s : State) : LockPath s (portReset p s) :=
  settled_lockPath (.reexamined (relaxed_trans
    (relaxed_of_same (t := resetPortState p (resetRequests p s)) (resetRequests_workOnly p s).locks (resetRequests_workOnly p s).waiters)
    (resetLocks_relaxed p _)))

/-- The leases of a tick, with the re-examination that follows an expiry (R24, R28). -/
def afterLeases (s : State) : State := if s.locks.any LockEntry.expiring then reexamine (tickLeases s) else tickLeases s

/-- The waits of a tick, with the re-examination that follows a denial (R48, R49). -/
def afterWaits (s : State) : State := if s.waiters.any Waiter.expiring then reexamine (tickWaiters s) else tickWaiters s

/-- A lease tick is its leases, its waits, and what an expiry has made due (R24). -/
theorem exec_leaseTick_eq (s : State) :
    exec .leaseTick s = .next
      (if s.locks.any LockEntry.expiring then settle (afterWaits (afterLeases s)) else afterWaits (afterLeases s)) := rfl

theorem afterLeases_lockPath (s : State) : LockPath s (afterLeases s) := by
  unfold afterLeases
  split
  · exact .reexamined (tickLeases_relaxed s)
  · next h => exact .adjusted (tickLeases_adjusted (by simpa using h))

theorem afterWaits_lockPath (s : State) : LockPath s (afterWaits s) := by
  unfold afterWaits
  split
  · exact .reexamined (tickWaiters_relaxed s)
  · next h => exact .adjusted (tickWaiters_adjusted (by simpa using h))

theorem exec_leaseTick_lockPath {s t : State} (next : exec .leaseTick s = .next t) : LockPath s t := by
  have path := (afterLeases_lockPath s).trans (afterWaits_lockPath _)
  rw [exec_leaseTick_eq] at next
  split at next <;> cases next
  · exact settled_lockPath path
  · exact path

theorem postItem_lockPath {item : OwnerRef} {s t : State} {record : Record} (h : postItem item s = some (record, t)) :
    LockPath s t := by
  unfold postItem at h
  split at h
  · split at h
    · cases h
    · split at h <;> cases h
      exact .same rfl rfl
  · split at h <;> cases h
    · next state => exact .adjusted (setLockState_held_adjusted state)
    · exact .reexamined (setLockState_free_relaxed _ s)
    · exact .reexamined (setLockState_free_relaxed _ s)
  · split at h
    · cases h
    · split at h <;> cases h
      exact .reexamined (removeWaiter_relaxed _ s)

theorem exec_lockPath {c : Instr} {s t : State} (next : exec c s = .next t) : LockPath s t := by
  cases c with
  | powerOnReset ready wp a b c d =>
    obtain ⟨u, isNext, work⟩ := exec_powerOnReset_workOnly ready wp a b c d s
    rw [next] at isNext
    cases isNext
    exact .powerOn work.locks work.waiters
  | initAsserted p =>
    change execInitAsserted p s = _ at next
    unfold execInitAsserted at next
    cases next
    split
    · exact .same rfl rfl
    · exact .trans (t := s.withInitLine (s.initLine.set p true)) (.same rfl rfl) (portReset_lockPath p _)
  | initNegated p => cases next; exact .same rfl rfl
  | reset p value => cases next; exact windowWrite_lockPath (portReset_lockPath p s)
  | go p value =>
    cases next
    refine windowWrite_lockPath ?_
    dsimp only
    split <;> exact .same rfl rfl
  | stagingWordWrite p offset value =>
    cases next
    refine windowWrite_lockPath ?_
    dsimp only
    split <;> exact .same rfl rfl
  | statusWordWrite p value => cases next; exact windowWrite_lockPath (.same rfl rfl)
  | interruptEnableWordWrite p value => cases next; exact windowWrite_lockPath (.same rfl rfl)
  | windowBaseWordWrite p value => cases next; exact windowWrite_lockPath (.same rfl rfl)
  | responseWord0Read p => cases next; exact .same rfl rfl
  | completionPop p value => cases next; exact windowWrite_lockPath (.same rfl rfl)
  | noticePop p value => cases next; exact windowWrite_lockPath (.same rfl rfl)
  | read p => cases next; exact takeCommand_lockPath fun _ => lockPath_of_workOnly (decideTransfer_workOnly p _ s)
  | write p => cases next; exact takeCommand_lockPath fun _ => lockPath_of_workOnly (decideTransfer_workOnly p _ s)
  | verify p => cases next; exact takeCommand_lockPath fun _ => lockPath_of_workOnly (decideTransfer_workOnly p _ s)
  | formatTrack p => cases next; exact takeCommand_lockPath fun _ => lockPath_of_workOnly (decideTransfer_workOnly p _ s)
  | cancel p => cases next; exact takeCommand_lockPath fun _ => lockPath_of_workOnly (decideCancel_workOnly p _ s)
  | acquire p => cases next; exact takeCommand_lockPath fun _ => decideAcquire_lockPath p _ s
  | renew p => cases next; exact takeCommand_lockPath fun _ => decideRenew_lockPath p _ s
  | release p => cases next; exact takeCommand_lockPath fun _ => decideRelease_lockPath p _ s
  | forceRelease p => cases next; exact takeCommand_lockPath fun _ => decideForceRelease_lockPath p _ s
  | withdraw p => cases next; exact takeCommand_lockPath fun _ => decideWithdraw_lockPath p _ s
  | watch p => cases next; exact takeCommand_lockPath fun _ => by rw [decideWatch_eq]; exact .same rfl rfl
  | unwatch p => cases next; exact takeCommand_lockPath fun _ => by rw [decideUnwatch_eq]; exact .same rfl rfl
  | claimToken p => cases next; exact takeCommand_lockPath fun _ => by rw [decideClaimToken_eq]; exact .same rfl rfl
  | releaseToken p => cases next; exact takeCommand_lockPath fun _ => by rw [decideReleaseToken_eq]; exact .same rfl rfl
  | setSetting p => cases next; exact takeCommand_lockPath fun _ => by rw [decideSetSetting_eq]; exact .same rfl rfl
  | readSettings p => cases next; exact takeCommand_lockPath fun _ => .same rfl rfl
  | unknownCommand p => cases next; exact takeCommand_lockPath fun _ => .same rfl rfl
  | leaseTick => exact exec_leaseTick_lockPath next
  | leaseExpiry i =>
    cases next
    split
    · exact settled_lockPath (.reexamined (tickLease_relaxed s _))
    · exact .same rfl rfl
  | waitDenial slot =>
    cases next
    split
    · exact .same rfl rfl
    · split
      · exact .reexamined (denyWaiter_relaxed _ s)
      · exact .same rfl rfl
  | posting p =>
    cases next
    rcases postRecord_cases p s with h | ⟨_, rest, _, _, _, _, posted, h⟩ <;> rw [h]
    · exact .same rfl rfl
    · exact .trans (t := s.withPendingRecords (s.pendingRecords.set p rest)) (.same rfl rfl)
        (.trans (postItem_lockPath posted) (.same rfl rfl))
  | writeReport =>
    cases next
    split
    · exact .same rfl rfl
    · rw [reportToPorts_eq]
      exact .same rfl rfl
  | risingReady wp => exact lockPath_exec_workOnly (exec_risingReady_workOnly wp s) next
  | fallingReady wp => exact lockPath_exec_workOnly (exec_fallingReady_workOnly wp s) next
  | index wp => exact lockPath_exec_workOnly (exec_index_workOnly wp s) next
  | blockMark wp => exact lockPath_exec_workOnly (exec_blockMark_workOnly wp s) next
  | headerRead wp field => exact lockPath_exec_workOnly (exec_headerRead_workOnly wp field s) next
  | dataFieldEnd wp field => exact lockPath_exec_workOnly (exec_dataFieldEnd_workOnly wp field s) next
  | seekDone wp => exact lockPath_exec_workOnly (exec_seekDone_workOnly wp s) next
  | positioningTimeLimit => exact lockPath_exec_workOnly (exec_positioningTimeLimit_workOnly s) next
  | settleExpiry => exact lockPath_exec_workOnly (exec_settleExpiry_workOnly s) next
  | faultHoldExpiry => exact lockPath_exec_workOnly (exec_faultHoldExpiry_workOnly s) next
  | busGrant p => exact lockPath_exec_workOnly (exec_busGrant_workOnly p s) next
  | burstEnd p words => exact lockPath_exec_workOnly (exec_burstEnd_workOnly p words s) next
  | hostBusTimeout p => exact lockPath_exec_workOnly (exec_hostBusTimeout_workOnly p s) next

/-- A step runs a command on the queue's rest, or does nothing. -/
theorem step_cases {s t : State} (h : step s = .next t) : t = s ∨ ∃ c rest, exec c (s.withPending rest) = .next t := by
  unfold step at h
  split at h
  · cases h
    exact .inl rfl
  · exact .inr ⟨_, _, h⟩

theorem step_lockPath {s t : State} (h : step s = .next t) : LockPath s t := by
  rcases step_cases h with rfl | ⟨c, rest, next⟩
  · exact .same rfl rfl
  · exact .trans (t := s.withPending rest) (.same rfl rfl) (exec_lockPath next)

/-! ### The locks stay compatible -/

theorem locksCompatible_of_held {s t : State} (h : ∀ i x, (lockAt t i).heldLock = some x → (lockAt s i).heldLock = some x)
    (k : LocksCompatible s) : LocksCompatible t :=
  fun i j x y ne hx hy => k i j x y ne (h i x hx) (h j y hy)

/-- A claim in conflict with no HELD lock may be allocated. -/
theorem allocateLock_locksCompatible {i : Nat} {lock : Lock} {grant : Grant} {s : State} (inside : i < s.locks.length)
    (free : conflictsWithHeld s lock = false) (h : LocksCompatible s) : LocksCompatible (allocateLock i lock grant s) := by
  have apart : ∀ j y, (lockAt s j).heldLock = some y → lock.conflicts y = false := fun j y held => by
    by_contra c
    rw [conflictsWithHeld_iff.mpr ⟨j, y, held, by simpa using c⟩] at free
    cases free
  intro a b x y ne hx hy
  rw [lockAt_allocateLock inside] at hx hy
  split at hx
  · next ea =>
    cases hx
    rw [if_neg fun eb => ne (ea.trans eb.symm)] at hy
    exact apart b y hy
  · split at hy
    · cases hy
      rw [conflicts_comm]
      exact apart a x hx
    · exact h a b x y ne hx hy

theorem grantable_no_conflict {s : State} {w : Waiter} (h : grantable s w = true) : conflictsWithHeld s w.lock = false := by
  simp only [grantable, Bool.and_eq_true, Bool.not_eq_true'] at h
  exact h.1.2

theorem grantWaiter_locksCompatible {s : State} (h : LocksCompatible s) (w : Waiter) : LocksCompatible (grantWaiter s w) := by
  rcases grantWaiter_cases s w with e | ⟨i, able, lowest, e⟩ <;> rw [e]
  · exact h
  · exact allocateLock_locksCompatible (lowestFreeLock_some lowest).1 (grantable_no_conflict able) h

theorem reexamine_locksCompatible {s : State} (h : LocksCompatible s) : LocksCompatible (reexamine s) := by
  unfold reexamine
  generalize s.waiters = l
  induction l generalizing s with
  | nil => exact h
  | cons w l ih => exact ih (grantWaiter_locksCompatible h w)

/-- A claim either changes no lock, joins the queue, or is allocated in conflict with no lock. -/
theorem decideClaim_cases (lock : Lock) (limit : Nat) (s : State) :
    (decideClaim lock limit s).state = s ∨
    (∃ slot state, lowestEmptySlot s = some slot ∧
      (conflictsWithHeld s lock = true ∨ barredBy s.waiters lock = true ∨ lowestFreeLock s = none) ∧
      (decideClaim lock limit s).state = s.withWaiters (s.waiters ++ [⟨slot, lock, state⟩])) ∨
    ∃ i grant, conflictsWithHeld s lock = false ∧ lowestFreeLock s = some i ∧
      (decideClaim lock limit s).state = allocateLock i lock grant s := by
  have queued : (queueWaiter lock limit s).state = s ∨ ∃ slot state, lowestEmptySlot s = some slot ∧
      (queueWaiter lock limit s).state = s.withWaiters (s.waiters ++ [⟨slot, lock, state⟩]) := by
    unfold queueWaiter
    split
    · exact .inl rfl
    · exact .inr ⟨_, _, ‹_›, rfl⟩
  unfold decideClaim
  split
  · next barred =>
    split
    · exact .inl rfl
    · rcases queued with e | ⟨slot, state, empty, e⟩
      · exact .inl e
      · exact .inr (.inl ⟨slot, state, empty, ((Bool.or_eq_true _ _).mp barred).imp_right .inl, e⟩)
  · next unbarred =>
    split
    · next full =>
      split
      · exact .inl rfl
      · rcases queued with e | ⟨slot, state, empty, e⟩
        · exact .inl e
        · exact .inr (.inl ⟨slot, state, empty, .inr (.inr full), e⟩)
    · next i lowest =>
      refine .inr (.inr ⟨i, _, ?_, lowest, rfl⟩)
      simp only [Bool.or_eq_true, not_or, Bool.not_eq_true] at unbarred
      exact unbarred.1

theorem decideClaim_locksCompatible {lock : Lock} {limit : Nat} {s : State} (h : LocksCompatible s) :
    LocksCompatible (decideClaim lock limit s).state := by
  rcases decideClaim_cases lock limit s with e | ⟨_, _, _, _, e⟩ | ⟨i, grant, free, lowest, e⟩ <;> rw [e]
  · exact h
  · exact h
  · exact allocateLock_locksCompatible (lowestFreeLock_some lowest).1 free h

theorem lockAt_reset (i : Nat) : lockAt State.reset i = ⟨0, .free⟩ := by
  rcases lockAt_mem_or State.reset i with mem | free
  · exact List.eq_of_mem_replicate mem
  · exact free

theorem LockPath.locksCompatible {s t : State} (path : LockPath s t) (h : LocksCompatible s) : LocksCompatible t := by
  induction path with
  | same locks _ => exact locksCompatible_of_held (fun i x held => by rwa [lockAt_congr locks] at held) h
  | adjusted k => exact locksCompatible_of_held (fun i x held => k.held i ▸ held) h
  | powerOn locks _ =>
    intro i j x y _ hx _
    rw [lockAt_congr locks, lockAt_reset] at hx
    cases hx
  | claimed => exact decideClaim_locksCompatible h
  | reexamined k => exact reexamine_locksCompatible (locksCompatible_of_held k.held h)
  | trans _ _ ih ih' => exact ih' (ih h)

/-- Settles O55: on every path of a step a lock is allocated only in conflict with no HELD lock. -/
theorem locksStayCompatible : Obligations.LocksStayCompatible := fun _ _ h next => (step_lockPath next).locksCompatible h

/-! ### No waiter is left grantable -/

theorem slot_lt_of_find {l : List Waiter} {slot : Nat}
    (h : (List.range Config.waitSlots).find? (fun n => !(l.any (fun w => decide (w.slot = n)))) = some slot) :
    slot < Config.waitSlots ∧ ∀ w ∈ l, w.slot ≠ slot := by
  refine ⟨List.mem_range.mp (List.mem_of_find?_eq_some h), fun w mem => ?_⟩
  have empty := List.find?_some h
  simp only [Bool.not_eq_true', List.any_eq_false, decide_eq_true_eq] at empty
  exact empty w mem

theorem lowestEmptySlot_some {s : State} {slot : Nat} (h : lowestEmptySlot s = some slot) :
    slot < Config.waitSlots ∧ ∀ w ∈ s.waiters, w.slot ≠ slot := slot_lt_of_find h

/-- A claim that could not be granted joins the queue without being grantable beside a FREE entry. -/
theorem noneLeftGrantable_of_queued {s : State} {slot : Nat} {lock : Lock} {state : WaiterState} (empty : lowestEmptySlot s = some slot)
    (barred : conflictsWithHeld s lock = true ∨ barredBy s.waiters lock = true ∨ lowestFreeLock s = none)
    (h : NoneLeftGrantable s) : NoneLeftGrantable (s.withWaiters (s.waiters ++ [⟨slot, lock, state⟩])) := by
  obtain ⟨⟨nodup, bound⟩, none⟩ := h
  obtain ⟨lt, fresh⟩ := lowestEmptySlot_some empty
  refine ⟨⟨?_, ?_⟩, ?_⟩
  · show ((s.waiters ++ [(⟨slot, lock, state⟩ : Waiter)]).map Waiter.slot).Nodup
    rw [List.map_append, List.map_singleton, List.nodup_append]
    refine ⟨nodup, List.nodup_singleton _, fun a ha b hb => ?_⟩
    obtain ⟨w, mem, rfl⟩ := List.mem_map.mp ha
    rw [List.mem_singleton.mp hb]
    exact fresh w mem
  · intro w mem
    rcases List.mem_append.mp mem with mem | mem
    · exact bound w mem
    · rw [List.mem_singleton.mp mem]
      exact lt
  · intro w mem able
    show lowestFreeLock s = .none
    rcases List.mem_append.mp mem with mem | mem
    · refine none w mem ?_
      rw [← able]
      simp only [grantable, olderWaiters, State.withWaiters]
      rw [takeWhile_slot_append mem]
      rfl
    · rw [List.mem_singleton.mp mem] at able
      have older : olderWaiters (s.withWaiters (s.waiters ++ [⟨slot, lock, state⟩])) ⟨slot, lock, state⟩ = s.waiters := by
        show (s.waiters ++ [(⟨slot, lock, state⟩ : Waiter)]).takeWhile _ = _
        rw [List.takeWhile_append_of_pos fun v mem => decide_eq_true (fresh v mem)]
        simp
      simp only [grantable, Bool.and_eq_true, Bool.not_eq_true', older] at able
      obtain ⟨⟨_, free⟩, unbarred⟩ := able
      rcases barred with c | c | full
      · exact absurd (free.symm.trans c) nofun
      · exact absurd (unbarred.symm.trans c) nofun
      · exact full

theorem allocateLock_noneLeftGrantable {s : State} {i : Nat} {lock : Lock} {grant : Grant} (lowest : lowestFreeLock s = some i)
    (h : NoneLeftGrantable s) : NoneLeftGrantable (allocateLock i lock grant s) := by
  obtain ⟨distinct, none⟩ := h
  refine ⟨distinct, fun w mem able => ?_⟩
  have before : grantable s w = true := by
    simp only [grantable, Bool.and_eq_true, Bool.not_eq_true'] at able ⊢
    obtain ⟨⟨waiting, free⟩, unbarred⟩ := able
    refine ⟨⟨waiting, ?_⟩, unbarred⟩
    by_contra c
    obtain ⟨j, x, held, conflict⟩ := conflictsWithHeld_iff.mp (by simpa using c)
    obtain ⟨inside, isFree⟩ := lowestFreeLock_some lowest
    have stays : (lockAt (allocateLock i lock grant s) j).heldLock = some x := by
      rw [lockAt_allocateLock inside, if_neg fun e => by
        rw [e, free_heldLock isFree] at held; exact absurd held nofun, held]
    rw [conflictsWithHeld_iff.mpr ⟨j, x, stays, conflict⟩] at free
    cases free
  have full := none w mem before
  rw [lowest] at full
  cases full

theorem decideClaim_noneLeftGrantable {lock : Lock} {limit : Nat} {s : State} (h : NoneLeftGrantable s) :
    NoneLeftGrantable (decideClaim lock limit s).state := by
  rcases decideClaim_cases lock limit s with e | ⟨slot, state, empty, barred, e⟩ | ⟨i, grant, _, lowest, e⟩ <;> rw [e]
  · exact h
  · exact noneLeftGrantable_of_queued empty barred h
  · exact allocateLock_noneLeftGrantable lowest h

theorem lowestFreeLock_none_of_entries {s t : State} (length : t.locks.length = s.locks.length)
    (free : ∀ i, (lockAt t i).state = .free → (lockAt s i).state = .free) (h : lowestFreeLock s = none) :
    lowestFreeLock t = none := by
  rw [lowestFreeLock_none_iff] at h ⊢
  intro e mem isFree
  obtain ⟨i, lt, rfl⟩ := List.mem_iff_getElem.mp mem
  have lt' : i < s.locks.length := length ▸ lt
  have at_t : lockAt t i = t.locks[i] := lockAt_of_getElem? (List.getElem?_eq_getElem lt)
  have at_s : lockAt s i = s.locks[i] := lockAt_of_getElem? (List.getElem?_eq_getElem lt')
  exact h _ (List.getElem_mem lt') (at_s ▸ free i (at_t ▸ isFree))

theorem adjusted_noneLeftGrantable {s t : State} (adj : Adjusted s t) (h : NoneLeftGrantable s) : NoneLeftGrantable t := by
  obtain ⟨distinct, none⟩ := h
  refine ⟨slotsDistinct_of_sublist (adjusted_slots adj distinct ▸ List.Sublist.refl _) distinct, fun v mem able => ?_⟩
  obtain ⟨f, map, keeps, waiting⟩ := adj.waiters distinct
  obtain ⟨w, memW, rfl⟩ := List.mem_map.mp (map ▸ mem)
  refine lowestFreeLock_none_of_entries adj.length (fun i => (adj.free i).mp) (none w memW ?_)
  have older : olderWaiters t (f w) = (olderWaiters s w).map f := by
    simp only [olderWaiters, map, List.takeWhile_map, Function.comp_def, (keeps _).1]
  simp only [grantable, Bool.and_eq_true, Bool.not_eq_true', older, (keeps w).2, waiting w memW] at able ⊢
  obtain ⟨⟨isWaiting, free⟩, unbarred⟩ := able
  refine ⟨⟨isWaiting, ?_⟩, ?_⟩
  · by_contra c
    obtain ⟨i, x, held, conflict⟩ := conflictsWithHeld_iff.mp (by simpa using c)
    rw [conflictsWithHeld_iff.mpr ⟨i, x, (adj.held i).trans held, conflict⟩] at free
    cases free
  · rw [barredBy, List.any_eq_false] at unbarred ⊢
    intro u memU bars
    refine unbarred (f u) (List.mem_map_of_mem memU) ?_
    rw [waiting u ((List.takeWhile_sublist _).subset memU), (keeps u).2]
    exact bars

theorem noneLeftGrantable_congr {s t : State} (locks : t.locks = s.locks) (waiters : t.waiters = s.waiters)
    (h : NoneLeftGrantable s) : NoneLeftGrantable t :=
  adjusted_noneLeftGrantable (adjusted_of_same locks waiters) h

theorem noneLeftGrantable_of_empty {t : State} (h : t.waiters = []) : NoneLeftGrantable t :=
  ⟨⟨by rw [h]; exact List.nodup_nil, by rw [h]; exact nofun⟩, by rw [h]; exact nofun⟩

theorem LockPath.noneLeftGrantable {s t : State} (path : LockPath s t) (h : NoneLeftGrantable s) : NoneLeftGrantable t := by
  induction path with
  | same locks waiters => exact noneLeftGrantable_congr locks waiters h
  | adjusted k => exact adjusted_noneLeftGrantable k h
  | powerOn _ waiters => exact noneLeftGrantable_of_empty waiters
  | claimed => exact decideClaim_noneLeftGrantable h
  | reexamined k => exact reexamine_noneLeftGrantable (slotsDistinct_of_sublist k.slots h.1)
  | trans _ _ ih ih' => exact ih' (ih h)

/-- Settles O59: on every path of a step a change that could let a waiter be granted is followed by a re-examination. -/
theorem grantableWaitersAreGranted : Obligations.GrantableWaitersAreGranted := fun _ _ h next =>
  (step_lockPath next).noneLeftGrantable h

/-! ### The Lock Table keeps its shape -/

theorem lockTableShaped_iff (s : State) :
    LockTableShaped s ↔ s.locks.length = Config.lockEntries ∧ ∀ i, (lockAt s i).generation < 16 := by
  refine and_congr_right fun _ => ⟨fun h i => ?_, fun h e mem => ?_⟩
  · rcases lockAt_mem_or s i with mem | free
    · exact h _ mem
    · rw [free]
      decide
  · obtain ⟨i, at_i⟩ := List.mem_iff_getElem?.mp mem
    exact lockAt_of_getElem? at_i ▸ h i

theorem leftOrGranted_generation {ws : List Waiter} {x y : LockEntry} (h : LeftOrGranted ws x y) (k : x.generation < 16) :
    y.generation < 16 := by
  rcases h with rfl | ⟨_, _, _, rfl⟩
  · exact k
  · exact Nat.mod_lt _ (by decide)

theorem grantWaiter_locks_length (s : State) (w : Waiter) : (grantWaiter s w).locks.length = s.locks.length := by
  rcases grantWaiter_cases s w with e | ⟨_, _, _, e⟩ <;> rw [e]
  exact List.length_set

theorem reexamine_locks_length (s : State) : (reexamine s).locks.length = s.locks.length := by
  unfold reexamine
  generalize s.waiters = l
  induction l generalizing s with
  | nil => rfl
  | cons w l ih => exact (ih _).trans (grantWaiter_locks_length s w)

theorem LockPath.lockTableShaped {s t : State} (path : LockPath s t) (h : LockTableShaped s) : LockTableShaped t := by
  induction path with
  | same locks _ => exact ⟨locks ▸ h.1, locks ▸ h.2⟩
  | adjusted k =>
    rw [lockTableShaped_iff] at h ⊢
    exact ⟨k.length.trans h.1, fun i => k.generation i ▸ h.2 i⟩
  | powerOn locks _ =>
    rw [lockTableShaped_iff]
    exact ⟨by rw [locks]; rfl, fun i => by rw [lockAt_congr locks, lockAt_reset]; decide⟩
  | @claimed lock limit s =>
    rcases decideClaim_cases lock limit s with e | ⟨_, _, _, _, e⟩ | ⟨i, grant, _, lowest, e⟩ <;> rw [e]
    · exact h
    · exact h
    · rw [lockTableShaped_iff] at h ⊢
      refine ⟨List.length_set.trans h.1, fun j => ?_⟩
      rw [lockAt_allocateLock (lowestFreeLock_some lowest).1]
      split
      · exact Nat.mod_lt _ (by decide)
      · exact h.2 j
  | @reexamined s u k =>
    rw [lockTableShaped_iff] at h ⊢
    exact ⟨(reexamine_locks_length u).trans (k.length.trans h.1),
      fun i => leftOrGranted_generation ((reexamine_grantedFrom u).locks i) (k.generation i ▸ h.2 i)⟩
  | trans _ _ ih ih' => exact ih' (ih h)

end Sys2Proof.Machine
end

section
/-! The buffers bound to an entry, counted, and what every operation on the work in progress keeps: where the heads are, the levels of
the drive, the items that wait in the pending-record lists, the order of the entries, and the shares of the buffers (R10, R12, R123, R125,
R142). -/

namespace Sys2Proof.Machine

open Sys2Proof.Safety

/-! ### The buffers of an entry, counted -/

/-- Whether a buffer is bound to an entry. -/
def boundTo (entry : Nat) : Option Buffer → Bool
  | some b => decide (b.entry = entry)
  | none => false

theorem boundBuffers_length (s : State) (entry : Nat) : (boundBuffers s entry).length = s.buffers.countP (boundTo entry) := by
  have bound : ∀ x : Option Buffer × Nat, (match x.1 with
      | some b => if b.entry = entry then some (x.2, b) else none
      | none => none).isSome = (boundTo entry ∘ Prod.fst) x := by
    rintro ⟨_ | b, i⟩
    · rfl
    · by_cases h : b.entry = entry <;> simp [boundTo, h]
  calc (boundBuffers s entry).length
      = s.buffers.zipIdx.countP (boundTo entry ∘ Prod.fst) := by
        rw [boundBuffers, List.length_filterMap_eq_countP]
        exact congrArg (List.countP · _) (funext bound)
    _ = s.buffers.countP (boundTo entry) := by rw [← List.countP_map, List.zipIdx_map_fst]

theorem buffersShared_iff (s : State) :
    BuffersShared s ↔ s.buffers.length = Config.bufferCount ∧
      ∀ entry, s.buffers.countP (boundTo entry) ≤ Config.buffersPerRequest := by
  simp only [BuffersShared, boundBuffers_length]

theorem buffersShared_congr {s t : State} (h : t.buffers = s.buffers) : BuffersShared t ↔ BuffersShared s := by
  simp only [buffersShared_iff, h]

theorem bufferAt_eq_some {s : State} {i : Nat} {b : Buffer} : bufferAt s i = some b ↔ s.buffers[i]? = some (some b) := by
  rw [bufferAt, List.getD_eq_getElem?_getD]
  cases s.buffers[i]? <;> simp

theorem mem_boundBuffers {s : State} {entry i : Nat} {b : Buffer} :
    (i, b) ∈ boundBuffers s entry ↔ bufferAt s i = some b ∧ b.entry = entry := by
  rw [boundBuffers, List.mem_filterMap, bufferAt_eq_some]
  constructor
  · rintro ⟨⟨_ | x, j⟩, mem, out⟩
    · cases out
    · dsimp only at out
      split at out
      · next h =>
        cases out
        exact ⟨List.mem_zipIdx_iff_getElem?.mp mem, h⟩
      · cases out
  · rintro ⟨at_i, h⟩
    exact ⟨(some b, i), List.mem_zipIdx_iff_getElem?.mpr at_i, if_pos h⟩

theorem lowestFreeBuffer_some {s : State} {i : Nat} (h : lowestFreeBuffer s = some i) : s.buffers[i]? = some none := by
  obtain ⟨lt, free, _⟩ := List.findIdx?_eq_some_iff_getElem.mp h
  rw [List.getElem?_eq_getElem lt, Option.isNone_iff_eq_none.mp free]

theorem lowestFreeBuffer_none {s : State} : lowestFreeBuffer s = none ↔ none ∉ s.buffers := by
  rw [lowestFreeBuffer, List.findIdx?_eq_none_iff]
  constructor
  · intro h mem
    exact absurd (h _ mem) nofun
  · rintro h (_ | b) mem
    · exact absurd mem h
    · rfl

/-- A buffer replaced adds at most itself to the buffers of an entry. -/
theorem countP_set_le (buffers : List (Option Buffer)) (i : Nat) (b : Option Buffer) (entry : Nat) :
    (buffers.set i b).countP (boundTo entry) ≤ buffers.countP (boundTo entry) + if boundTo entry b then 1 else 0 := by
  rcases Nat.lt_or_ge i buffers.length with lt | ge
  · rw [List.countP_set lt]
    omega
  · rw [List.set_eq_of_length_le ge]
    omega

/-- A buffer replaced by one of the same entry leaves the buffers of each entry as many. -/
theorem countP_set_same {buffers : List (Option Buffer)} {i : Nat} {b c : Buffer} (at_i : buffers[i]? = some (some b))
    (same : c.entry = b.entry) (entry : Nat) : (buffers.set i (some c)).countP (boundTo entry) = buffers.countP (boundTo entry) := by
  obtain ⟨lt, is_b⟩ := List.getElem?_eq_some_iff.mp at_i
  rw [List.countP_set lt, is_b, show boundTo entry (some c) = boundTo entry (some b) by simp only [boundTo, same]]
  split
  · next h =>
    have : 0 < buffers.countP (boundTo entry) := List.countP_pos_iff.mpr ⟨some b, is_b ▸ List.getElem_mem lt, h⟩
    omega
  · omega

theorem setBuffer_same_shared {s : State} {i : Nat} {b c : Buffer} (at_i : bufferAt s i = some b) (same : c.entry = b.entry)
    (h : BuffersShared s) : BuffersShared (setBuffer i (some c) s) := by
  rw [buffersShared_iff] at h ⊢
  exact ⟨List.length_set.trans h.1, fun entry => (countP_set_same (bufferAt_eq_some.mp at_i) same entry).le.trans (h.2 entry)⟩

theorem setBuffer_none_shared (i : Nat) {s : State} (h : BuffersShared s) : BuffersShared (setBuffer i none s) := by
  rw [buffersShared_iff] at h ⊢
  exact ⟨List.length_set.trans h.1, fun entry => (countP_set_le s.buffers i none entry).trans (h.2 entry)⟩

/-- A claim by an entry that holds fewer than three buffers keeps the shares (R125). -/
theorem setBuffer_claim_shared {s : State} {i : Nat} {b : Buffer}
    (few : (boundBuffers s b.entry).length < Config.buffersPerRequest) (h : BuffersShared s) :
    BuffersShared (setBuffer i (some b) s) := by
  rw [boundBuffers_length] at few
  rw [buffersShared_iff] at h ⊢
  refine ⟨List.length_set.trans h.1, fun entry => (countP_set_le s.buffers i (some b) entry).trans ?_⟩
  split
  · next bound =>
    rw [← of_decide_eq_true bound]
    exact few
  · exact h.2 entry

theorem freeBuffers_shared (test : Buffer → Bool) {s : State} (h : BuffersShared s) : BuffersShared (freeBuffers test s) := by
  rw [buffersShared_iff] at h ⊢
  refine ⟨(List.length_map _).trans h.1, fun entry => le_trans ?_ (h.2 entry)⟩
  show (s.buffers.map _).countP _ ≤ _
  rw [List.countP_map]
  refine List.countP_mono_left fun x _ => ?_
  rcases x with _ | b
  · exact id
  · dsimp only [Function.comp]
    split
    · exact nofun
    · exact id

/-! ### What the operations on the work in progress keep -/

/-- What every operation on the work in progress keeps: the rotational position and the believed cylinder, a head of the drive, the levels
of READY and WRITE PROTECT, the items that wait to be posted, the order of the entries, and the shares of the buffers. -/
structure Kept (s t : State) : Prop where
  position : t.sequencer.position = s.sequencer.position
  believed : t.sequencer.believed = s.sequencer.believed
  head : t.sequencer.head = s.sequencer.head ∨ ∃ b, t.sequencer.head = headOf b
  ready : t.drive.ready = s.drive.ready
  writeProtect : t.drive.writeProtect = s.drive.writeProtect
  pendingRecords : ∀ p item, item ∈ s.pendingRecords.get p → item ∈ t.pendingRecords.get p
  entries : (t.requests.map Request.index).Sublist (s.requests.map Request.index)
  buffers : BuffersShared s → BuffersShared t

theorem kept_refl (s : State) : Kept s s := ⟨rfl, rfl, .inl rfl, rfl, rfl, fun _ _ h => h, List.Sublist.refl _, id⟩

theorem kept_trans {s t u : State} (h : Kept s t) (k : Kept t u) : Kept s u :=
  ⟨k.position.trans h.position, k.believed.trans h.believed,
    k.head.elim (fun e => h.head.imp e.trans fun ⟨b, e'⟩ => ⟨b, e.trans e'⟩) .inr, k.ready.trans h.ready,
    k.writeProtect.trans h.writeProtect, fun p item mem => k.pendingRecords p item (h.pendingRecords p item mem),
    k.entries.trans h.entries, fun shared => k.buffers (h.buffers shared)⟩

theorem foldl_kept {α : Type} (f : State → α → State) (h : ∀ s x, Kept s (f s x)) (l : List α) (s : State) :
    Kept s (l.foldl f s) := by
  induction l generalizing s with
  | nil => exact kept_refl s
  | cons x l ih => exact kept_trans (h s x) (ih (f s x))

theorem withRequests_kept {s : State} {v : List Request} (h : (v.map Request.index).Sublist (s.requests.map Request.index)) :
    Kept s (s.withRequests v) :=
  ⟨rfl, rfl, .inl rfl, rfl, rfl, fun _ _ h => h, h, id⟩

/-- A change of entries that keeps their indices. -/
theorem mapRequests_kept {s : State} (f : Request → Request) (h : ∀ r, (f r).index = r.index) :
    Kept s (s.withRequests (s.requests.map f)) :=
  withRequests_kept (by rw [List.map_map]; exact sublist_of_eq (List.map_congr_left fun r _ => h r))

theorem withBuffers_kept {s : State} {v : List (Option Buffer)} (h : BuffersShared s → BuffersShared (s.withBuffers v)) :
    Kept s (s.withBuffers v) :=
  ⟨rfl, rfl, .inl rfl, rfl, rfl, fun _ _ h => h, List.Sublist.refl _, h⟩

theorem withEngines_kept (s : State) (v : PortMap Engine) : Kept s (s.withEngines v) :=
  ⟨rfl, rfl, .inl rfl, rfl, rfl, fun _ _ h => h, List.Sublist.refl _, id⟩

theorem withSweep_kept (s : State) (v : Sweep) : Kept s (s.withSweep v) :=
  ⟨rfl, rfl, .inl rfl, rfl, rfl, fun _ _ h => h, List.Sublist.refl _, id⟩

theorem withWriteReports_kept (s : State) (v : List WriteReport) : Kept s (s.withWriteReports v) :=
  ⟨rfl, rfl, .inl rfl, rfl, rfl, fun _ _ h => h, List.Sublist.refl _, id⟩

theorem modifySequencer_kept {s : State} {f : Sequencer → Sequencer} (position : (f s.sequencer).position = s.sequencer.position)
    (believed : (f s.sequencer).believed = s.sequencer.believed)
    (head : (f s.sequencer).head = s.sequencer.head ∨ ∃ b, (f s.sequencer).head = headOf b) : Kept s (s.modifySequencer f) :=
  ⟨position, believed, head, rfl, rfl, fun _ _ h => h, List.Sublist.refl _, id⟩

theorem modifyDrive_kept {s : State} {f : DriveLines → DriveLines} (ready : (f s.drive).ready = s.drive.ready)
    (writeProtect : (f s.drive).writeProtect = s.drive.writeProtect) : Kept s (s.modifyDrive f) :=
  ⟨rfl, rfl, .inl rfl, ready, writeProtect, fun _ _ h => h, List.Sublist.refl _, id⟩

/-! ### The Request Table and the buffers -/

theorem updateRequest_kept {i : Nat} {f : Request → Request} (s : State) (h : ∀ r, (f r).index = r.index) :
    Kept s (updateRequest i f s) := by
  refine mapRequests_kept _ fun r => ?_
  split
  · exact h r
  · rfl

theorem removeRequest_kept (i : Nat) (s : State) : Kept s (removeRequest i s) :=
  withRequests_kept (List.filter_sublist.map _)

theorem dropDependency_index (i : Nat) (r : Request) : (r.dropDependency i).index = r.index := by
  unfold Request.dropDependency
  split
  · dsimp only
    split <;> rfl
  · rfl

theorem leaveMedium_kept (i : Nat) (s : State) : Kept s (leaveMedium i s) := mapRequests_kept _ (dropDependency_index i)

theorem raiseRetries_kept (i n : Nat) (s : State) : Kept s (raiseRetries i n s) := updateRequest_kept s fun _ => rfl

theorem joinPending_kept (p : Port) (item : OwnerRef) (s : State) : Kept s (joinPending p item s) := by
  refine ⟨rfl, rfl, .inl rfl, rfl, rfl, fun q x mem => ?_, List.Sublist.refl _, id⟩
  show x ∈ (s.pendingRecords.set p _).get q
  rw [PortMap.get_set]
  split
  · next e => subst e; exact List.mem_append_left _ mem
  · exact mem

theorem freeBuffers_kept (test : Buffer → Bool) (s : State) : Kept s (freeBuffers test s) :=
  ⟨rfl, rfl, .inl rfl, rfl, rfl, fun _ _ h => h, List.Sublist.refl _, freeBuffers_shared test⟩

theorem forgetEntry_kept (i : Nat) (s : State) : Kept s (forgetEntry i s) := withEngines_kept s _

theorem enterHeld_kept (i : Nat) (status : Status) (failing : Option Nat) (s : State) : Kept s (enterHeld i status failing s) := by
  unfold enterHeld
  split
  · exact kept_refl s
  · exact kept_trans (updateRequest_kept s (by intro; rfl)) (kept_trans (leaveMedium_kept i _)
      (kept_trans (freeBuffers_kept _ _) (kept_trans (forgetEntry_kept i _) (joinPending_kept _ _ _))))

theorem freeRequest_kept (i : Nat) (s : State) : Kept s (freeRequest i s) :=
  kept_trans (removeRequest_kept i s) (kept_trans (leaveMedium_kept i _) (kept_trans (freeBuffers_kept _ _) (forgetEntry_kept i _)))

/-! ### The Medium Sequencer -/

theorem modifyService_kept (f : Service → Service) (s : State) : Kept s (modifyService f s) :=
  modifySequencer_kept rfl rfl (.inl rfl)

theorem assertWriteGate_kept (bytes : List Byte) (s : State) : Kept s (assertWriteGate bytes s) := modifyDrive_kept rfl rfl

theorem removeWriteGate_kept (s : State) : Kept s (removeWriteGate s) := modifyDrive_kept rfl rfl

theorem makeWriteReport_kept (r : Request) (v : Service) (s : State) : Kept s (makeWriteReport r v s) := by
  unfold makeWriteReport
  split
  · exact kept_refl s
  · split
    · exact kept_refl s
    · exact withWriteReports_kept s _

theorem endActive_kept (r : Request) (v : Service) (status : Status) (failing : Option Nat) (s : State) :
    Kept s (endActive r v status failing s) := by
  unfold endActive
  split
  · split
    · exact kept_trans (updateRequest_kept s (by intro; rfl)) (leaveMedium_kept _ _)
    · exact enterHeld_kept _ _ _ s
  · exact kept_trans (enterHeld_kept _ _ _ s) (makeWriteReport_kept r v _)

theorem applyEnd_kept (r : Request) (v : Service) (e : MediumEnd) (s : State) : Kept s (applyEnd r v e s) := by
  unfold applyEnd
  split
  · exact freeRequest_kept _ s
  · exact kept_trans (enterHeld_kept _ _ _ s) (makeWriteReport_kept r v _)
  · split
    · exact endActive_kept r v _ _ s
    · exact endActive_kept r v _ _ s
    · exact kept_refl s
  · exact kept_refl s

theorem closeService_kept (v : Service) (next : SequencerState) (s : State) : Kept s (closeService v next s) :=
  kept_trans (freeBuffers_kept _ s) (kept_trans (modifySequencer_kept rfl rfl (.inl rfl)) (modifyDrive_kept rfl rfl))

theorem endOnMedium_kept (e : MediumEnd) (next : SequencerState) (s : State) : Kept s (endOnMedium e next s) := by
  unfold endOnMedium
  split
  · exact kept_refl s
  · dsimp only
    split
    · exact kept_trans (closeService_kept _ next s) (raiseRetries_kept _ _ _)
    · exact kept_trans (kept_trans (closeService_kept _ next s) (raiseRetries_kept _ _ _)) (applyEnd_kept _ _ e _)

theorem failOnMedium_kept (status : Status) (failing : Nat) (s : State) : Kept s (failOnMedium status failing s) :=
  endOnMedium_kept _ _ s

theorem failCurrent_kept (status : Status) (s : State) : Kept s (failCurrent status s) := by
  unfold failCurrent
  split
  · exact kept_refl s
  · exact failOnMedium_kept _ _ s

theorem issueSeek_kept (cylinder : Nat) (s : State) : Kept s (issueSeek cylinder s) := modifySequencer_kept rfl rfl (.inl rfl)

theorem issueRecalibrate_kept (state : SequencerState) (s : State) : Kept s (issueRecalibrate state s) :=
  modifySequencer_kept rfl rfl (.inl rfl)

theorem enterSettling_kept (s : State) : Kept s (enterSettling s) := modifySequencer_kept rfl rfl (.inl rfl)

theorem enterSearching_kept (s : State) : Kept s (enterSearching s) := by
  unfold enterSearching
  split
  · exact kept_refl s
  · exact modifySequencer_kept rfl rfl (.inr ⟨_, rfl⟩)

theorem enterFormatting_kept (s : State) : Kept s (enterFormatting s) := by
  unfold enterFormatting
  split
  · exact kept_refl s
  · dsimp only
    split
    · exact kept_trans (modifySequencer_kept rfl rfl (.inr ⟨_, rfl⟩)) (failOnMedium_kept _ _ _)
    · exact modifySequencer_kept rfl rfl (.inr ⟨_, rfl⟩)

theorem enterTrack_kept (r : Request) (s : State) : Kept s (enterTrack r s) := by
  unfold enterTrack
  split
  · exact enterFormatting_kept s
  · exact enterSearching_kept s

theorem headerMismatch_kept (s : State) : Kept s (headerMismatch s) := by
  unfold headerMismatch
  split
  · exact kept_refl s
  · split
    · exact kept_trans (modifySequencer_kept rfl rfl (.inl rfl)) (issueRecalibrate_kept _ _)
    · exact failCurrent_kept _ s

theorem finishBlocks_kept (n retries : Nat) (s : State) : Kept s (finishBlocks n retries s) := by
  unfold finishBlocks
  split
  · exact kept_refl s
  · exact updateRequest_kept s fun _ => rfl

theorem nextBlock_kept (v : Service) (s : State) : Kept s (nextBlock v s) := by
  unfold nextBlock
  dsimp only
  split
  · exact kept_trans (modifyService_kept _ s) (enterSearching_kept _)
  · exact kept_trans (modifySequencer_kept rfl rfl (.inr ⟨0, rfl⟩)) (issueSeek_kept _ _)

theorem advance_kept (s : State) : Kept s (advance s) := by
  unfold advance
  split
  · exact kept_refl s
  · split
    · exact kept_refl s
    · split
      · exact endOnMedium_kept _ _ s
      · split
        · exact endOnMedium_kept _ _ s
        · exact nextBlock_kept _ s

theorem dataCheckError_kept (s : State) : Kept s (dataCheckError s) := by
  unfold dataCheckError
  split
  · exact kept_refl s
  · split
    · exact endOnMedium_kept _ _ s
    · split
      · exact kept_trans (modifyService_kept _ s) (enterSearching_kept _)
      · exact failCurrent_kept _ s

theorem takeStop_kept (s : State) : Kept s (takeStop s) := by
  unfold takeStop
  split
  · exact endOnMedium_kept _ _ s
  · exact endOnMedium_kept _ _ s
  · split
    · exact kept_refl s
    · exact endOnMedium_kept _ _ s
  · exact kept_refl s

theorem markStop_kept (i : Nat) (reason : Status) (s : State) : Kept s (markStop i reason s) :=
  kept_trans (updateRequest_kept s (by intro; rfl)) (modifyService_kept _ _)

theorem askStop_kept (i : Nat) (reason : Status) (s : State) : Kept s (askStop i reason s) := by
  unfold askStop
  split
  · exact kept_refl s
  · split
    · exact kept_trans (markStop_kept _ _ _) (takeStop_kept _)
    · exact kept_refl s

theorem cessationStop_kept (asked : Bool) (s : State) : Kept s (cessationStop asked s) := by
  unfold cessationStop
  split
  · exact takeStop_kept s
  · exact kept_refl s

theorem cessationOf_kept (owner : Port) (extent : Extent) (s : State) (i : Nat) : Kept s (cessationOf owner extent s i) := by
  unfold cessationOf
  split
  · exact kept_refl s
  · split
    · split
      · exact enterHeld_kept _ _ _ s
      · exact enterHeld_kept _ _ _ s
      · exact markStop_kept _ _ s
      · exact kept_refl s
    · exact kept_refl s

theorem lockCessation_kept (owner : Port) (extent : Extent) (s : State) : Kept s (lockCessation owner extent s) :=
  foldl_kept _ (cessationOf_kept owner extent) _ s

theorem offlineReport_kept (s : State) : Kept s (offlineReport s) := by
  refine foldl_kept _ (fun t i => ?_) _ s
  split
  · exact kept_refl t
  · split
    · exact enterHeld_kept _ _ _ t
    · exact enterHeld_kept _ _ _ t
    · exact kept_refl t

theorem orphanRequest_kept (i : Nat) (s : State) : Kept s (orphanRequest i s) :=
  kept_trans (updateRequest_kept s (by intro; rfl))
    (kept_trans (freeBuffers_kept _ _) (kept_trans (modifyService_kept _ _) (takeStop_kept _)))

theorem resetRequest_kept (p : Port) (s : State) (i : Nat) : Kept s (resetRequest p s i) := by
  unfold resetRequest
  split
  · exact kept_refl s
  · split
    · split
      · exact orphanRequest_kept i s
      · exact kept_refl s
      · exact freeRequest_kept i s
    · exact kept_refl s

theorem resetRequests_kept (p : Port) (s : State) : Kept s (resetRequests p s) := foldl_kept _ (resetRequest_kept p) _ s

/-! ### The Head Scheduler, the engines and the end of an event -/

theorem modifyEngine_kept (s : State) (p : Port) (f : Engine → Engine) : Kept s (s.modifyEngine p f) := withEngines_kept s _

theorem activate_kept (i : Nat) (s : State) : Kept s (activate i s) :=
  mapRequests_kept _ fun r => by
    split
    · rfl
    · split <;> rfl

theorem startPrefetch_kept (r : Request) (s : State) : Kept s (startPrefetch r s) := by
  unfold startPrefetch
  split
  · exact modifyEngine_kept s _ _
  · exact kept_refl s

theorem handOver_kept (r : Request) (s : State) : Kept s (handOver r s) := by
  unfold handOver
  dsimp only
  have h := kept_trans (kept_trans (activate_kept r.index s) (withSweep_kept _
    (sweepAfter s.sweep (s.sequencer.believed.getD 0) r.cylinder)))
    (kept_trans (startPrefetch_kept r _) (modifySequencer_kept
      (f := fun q => { q with service := some (.start r), head := headOf r.first }) rfl rfl (.inr ⟨_, rfl⟩)))
  split
  · exact kept_trans h (enterTrack_kept r _)
  · exact kept_trans h (issueSeek_kept _ _)

theorem runScheduler_kept (n : Nat) (s : State) : Kept s (runScheduler n s) := by
  induction n generalizing s with
  | zero => exact kept_refl s
  | succ n ih =>
    unfold runScheduler
    split
    · split
      · exact kept_refl s
      · exact kept_trans (handOver_kept _ s) (ih _)
    · exact kept_refl s

/-- A claim that meets the conditions finds the entry with fewer than three buffers (R130). -/
theorem mayClaim_few {s : State} {e : Engine} {f : Prefetch} (h : mayClaim s e f = true) :
    (boundBuffers s f.entry).length < Config.buffersPerRequest := by
  unfold mayClaim at h
  split at h
  · cases h
  · simp only [Bool.and_eq_true, decide_eq_true_eq] at h
    exact h.2

theorem prefetchPort_kept (p : Port) (n : Nat) (s : State) : Kept s (prefetchPort p n s) := by
  induction n generalizing s with
  | zero => exact kept_refl s
  | succ n ih =>
    unfold prefetchPort
    split
    · exact kept_refl s
    · split
      · next may =>
        split
        · exact modifyEngine_kept s p _
        · exact kept_trans (kept_trans (withBuffers_kept (setBuffer_claim_shared (mayClaim_few may)))
            (modifyEngine_kept _ p _)) (ih _)
      · exact kept_refl s

theorem requestBus_kept (p : Port) (s : State) : Kept s (requestBus p s) := modifyEngine_kept s p _

/-- The element that `pickLeast` picks is one of the list. -/
theorem mem_of_pickLeast {α : Type} {measure : α → Nat} {l : List α} {x : α} (h : pickLeast measure l = some x) : x ∈ l := by
  induction l generalizing x with
  | nil => cases h
  | cons y l ih =>
    unfold pickLeast at h
    split at h
    · cases h
      exact List.mem_cons_self
    · next z picked =>
      split at h <;> cases h
      · exact List.mem_cons_of_mem _ (ih picked)
      · exact List.mem_cons_self

theorem eligibleFull_mem {s : State} {entry : Nat} {x : Nat × Buffer} (h : eligibleFull s entry = some x) :
    x ∈ fullBuffers s entry := by
  unfold eligibleFull at h
  split at h
  · cases h
  · exact mem_of_pickLeast h

theorem activeWork_bound {s : State} {e : Engine} {r : Request} {x : Nat × Buffer} (h : activeWork s e r = some x) :
    x ∈ boundBuffers s r.index := by
  unfold activeWork at h
  split at h
  · split at h
    · exact (List.mem_filter.mp (mem_of_pickLeast h)).1
    · cases h
  · exact (List.mem_filter.mp (eligibleFull_mem h)).1
  · cases h

/-- The work of an engine is a buffer of the pool, bound to a request of its port. -/
theorem engineWork_bound {s : State} {p : Port} {x : Nat × Buffer} (h : engineWork s p = some x) :
    ∃ r ∈ s.requests, r.port = p ∧ x ∈ boundBuffers s r.index := by
  have mine : ∀ {r : Request}, r ∈ s.requests.filter (fun r => decide (r.port = p) &&
      decide ((s.engines.get p).givenUp ≠ some r.index)) → r ∈ s.requests ∧ r.port = p := fun mem => by
    obtain ⟨mem, test⟩ := List.mem_filter.mp mem
    exact ⟨mem, of_decide_eq_true ((Bool.and_eq_true _ _).mp test).1⟩
  unfold engineWork at h
  dsimp only at h
  split at h
  · next work =>
    cases h
    obtain ⟨r, found, work⟩ := Option.bind_eq_some_iff.mp work
    obtain ⟨mem, port⟩ := mine (List.mem_of_find?_eq_some found)
    exact ⟨r, mem, port, activeWork_bound work⟩
  · obtain ⟨r, mem, work⟩ := List.exists_of_findSome?_eq_some h
    obtain ⟨mem, port⟩ := mine (List.mem_filter.mp mem).1
    exact ⟨r, mem, port, (List.mem_filter.mp (eligibleFull_mem work)).1⟩

theorem engineWork_at {s : State} {p : Port} {i : Nat} {b : Buffer} (h : engineWork s p = some (i, b)) : bufferAt s i = some b := by
  obtain ⟨_, _, _, bound⟩ := engineWork_bound h
  exact (mem_boundBuffers.mp bound).1

theorem taken_entry (b : Buffer) : b.taken.entry = b.entry := by
  unfold Buffer.taken
  split <;> rfl

theorem chooseWork_kept (p : Port) (s : State) : Kept s (chooseWork p s) := by
  unfold chooseWork
  split
  · split
    · exact kept_refl s
    · next work =>
      exact kept_trans (kept_trans (withBuffers_kept (setBuffer_same_shared (engineWork_at work) (taken_entry _)))
        (modifyEngine_kept _ p _)) (requestBus_kept p _)
  · exact kept_refl s

theorem forPorts_kept (f : Port → State → State) (h : ∀ p s, Kept s (f p s)) (s : State) : Kept s (forPorts f s) :=
  kept_trans (h .a s) (kept_trans (h .b _) (kept_trans (h .c _) (h .d _)))

theorem settle_kept (s : State) : Kept s (settle s) :=
  kept_trans (runScheduler_kept _ s)
    (kept_trans (forPorts_kept _ (fun p => prefetchPort_kept p _) _) (forPorts_kept _ chooseWork_kept _))

/-! ### The drive and the host bus -/

theorem beginFormatBlock_kept (v : Service) (s : State) : Kept s (beginFormatBlock v s) := by
  unfold beginFormatBlock
  split
  · exact kept_refl s
  · exact kept_trans (modifyService_kept _ s) (assertWriteGate_kept _ _)

theorem indexInSearch_kept (s : State) : Kept s (indexInSearch s) := by
  unfold indexInSearch
  split
  · exact kept_refl s
  · split
    · exact kept_trans (failCurrent_kept _ s) (settle_kept _)
    · exact modifyService_kept _ s

theorem indexInFormat_kept (s : State) : Kept s (indexInFormat s) := by
  unfold indexInFormat
  split
  · exact kept_refl s
  · split
    · exact modifyService_kept _ s
    · exact kept_refl s
    · exact kept_trans (failOnMedium_kept _ _ s) (settle_kept _)
    · exact kept_trans (failOnMedium_kept _ _ s) (settle_kept _)

theorem markInFormat_kept (s : State) : Kept s (markInFormat s) := by
  unfold markInFormat
  split
  · exact kept_refl s
  · split
    · exact kept_refl s
    · exact beginFormatBlock_kept _ s
    · exact kept_trans (failOnMedium_kept _ _ s) (settle_kept _)
    · exact beginFormatBlock_kept _ s

theorem cutField_kept (s : State) : Kept s (if readsField s then settle (dataCheckError s) else s) := by
  split
  · exact kept_trans (dataCheckError_kept s) (settle_kept _)
  · exact kept_refl s

theorem enterTransferring_kept (v : Service) (s : State) : Kept s (enterTransferring v s) := modifySequencer_kept rfl rfl (.inl rfl)

theorem readAtHeader_kept (v : Service) (r : Request) (s : State) : Kept s (readAtHeader v r s) := by
  unfold readAtHeader
  split
  · exact enterTransferring_kept v s
  · split
    · next few =>
      split
      · exact kept_refl s
      · exact kept_trans (withBuffers_kept (setBuffer_claim_shared few)) (enterTransferring_kept _ _)
    · exact kept_refl s

theorem loadedBuffer_at {s : State} {entry block i : Nat} {data : List Word} (h : loadedBuffer s entry block = some (i, data)) :
    bufferAt s i = some ⟨entry, block, .loaded data⟩ := by
  unfold loadedBuffer at h
  obtain ⟨⟨j, b⟩, mem, out⟩ := List.exists_of_findSome?_eq_some h
  obtain ⟨at_j, rfl⟩ := mem_boundBuffers.mp mem
  dsimp only at out
  split at out
  · next state =>
    split at out
    · next block =>
      cases out
      rw [at_j, ← block, ← state]
    · cases out
  · cases out

theorem writeAtHeader_kept (v : Service) (r : Request) (s : State) : Kept s (writeAtHeader v r s) := by
  unfold writeAtHeader
  split
  · exact kept_refl s
  · next loaded =>
    split
    · exact kept_trans (failCurrent_kept _ s) (settle_kept _)
    · exact kept_trans (kept_trans (withBuffers_kept (setBuffer_same_shared (loadedBuffer_at loaded) (by rfl)))
        (enterTransferring_kept _ _)) (assertWriteGate_kept _ _)

theorem targetHeader_kept (h : Header) (v : Service) (r : Request) (s : State) : Kept s (targetHeader h v r s) := by
  unfold targetHeader
  dsimp only
  refine kept_trans (modifySequencer_kept (f := fun q => { q with service := some { v with indexPasses := 0 } }) rfl rfl (.inl rfl)) ?_
  split
  · exact kept_trans (failCurrent_kept _ _) (settle_kept _)
  · split
    · exact readAtHeader_kept _ r _
    · exact writeAtHeader_kept _ r _
    · exact enterTransferring_kept _ _
    · exact kept_refl _

theorem blockFinished_kept (retries : Nat) (s : State) : Kept s (blockFinished retries s) :=
  kept_trans (finishBlocks_kept _ _ s) (kept_trans (advance_kept _) (settle_kept _))

theorem fillBuffer_kept (v : Service) (field : List Byte) (s : State) : Kept s (fillBuffer v field s) := by
  unfold fillBuffer
  split
  · exact kept_refl s
  · split
    · exact kept_refl s
    · next at_i => exact kept_trans (withBuffers_kept (setBuffer_same_shared at_i (by rfl))) (modifyService_kept _ _)

theorem readFieldEnd_kept (v : Service) (r : Request) (field : List Byte) (s : State) : Kept s (readFieldEnd v r field s) := by
  unfold readFieldEnd
  split
  · split
    · refine kept_trans (t := if v.orphan then s else fillBuffer v field s) ?_ (blockFinished_kept _ _)
      split
      · exact kept_refl s
      · exact fillBuffer_kept v field s
    · exact blockFinished_kept _ s
  · exact kept_trans (dataCheckError_kept s) (settle_kept _)

theorem writeFieldEnd_kept (v : Service) (s : State) : Kept s (writeFieldEnd v s) :=
  kept_trans (freeBuffers_kept _ s) (kept_trans (removeWriteGate_kept _) (blockFinished_kept _ _))

theorem formatFieldEnd_kept (v : Service) (s : State) : Kept s (formatFieldEnd v s) := by
  unfold formatFieldEnd
  split
  · split
    · exact kept_trans (kept_trans (removeWriteGate_kept s) (finishBlocks_kept _ _ _))
        (kept_trans (endOnMedium_kept _ _ _) (settle_kept _))
    · exact kept_trans (modifyService_kept _ s) (assertWriteGate_kept _ _)
  · exact kept_refl s

theorem setRecovery_kept (recovery : Recovery) (s : State) : Kept s (setRecovery recovery s) := modifyService_kept _ s

theorem seekArrived_kept (v : Service) (s : State) : Kept s (seekArrived v s) := by
  unfold seekArrived
  split
  · exact kept_trans (endOnMedium_kept _ _ s) (settle_kept _)
  · split
    · split
      · exact kept_trans (setRecovery_kept _ s) (enterSettling_kept _)
      · exact kept_trans (setRecovery_kept _ s) (issueSeek_kept _ _)
    · exact kept_trans (setRecovery_kept _ s) (enterSettling_kept _)
    · exact enterSettling_kept s

theorem endPositioning_kept (s : State) : Kept s (endPositioning s) := modifySequencer_kept rfl rfl (.inl rfl)

theorem enterHolding_kept (s : State) : Kept s (enterHolding s) := modifySequencer_kept rfl rfl (.inl rfl)

theorem deliveryReport_kept (entry : Nat) (s : State) : Kept s (deliveryReport entry s) := by
  unfold deliveryReport
  split
  · exact kept_refl s
  · split
    · exact updateRequest_kept s fun _ => rfl
    · dsimp only
      split
      · exact kept_trans (updateRequest_kept s (by intro; rfl)) (enterHeld_kept _ _ _ _)
      · exact updateRequest_kept s fun _ => rfl
    · exact kept_refl s

theorem timeoutReport_kept (entry : Nat) (s : State) : Kept s (timeoutReport entry s) := by
  unfold timeoutReport
  split
  · exact kept_refl s
  · split
    · exact askStop_kept _ _ s
    · exact enterHeld_kept _ _ _ s
    · exact kept_refl s

theorem drainBurstEnd_kept {p : Port} {i : Nat} {b : Buffer} {moved : Nat} {data : List Word} {s : State}
    (at_i : bufferAt s i = some b) : Kept s (drainBurstEnd p i b moved data s) := by
  unfold drainBurstEnd
  split
  · exact kept_trans (modifyEngine_kept s p _)
      (kept_trans (withBuffers_kept (setBuffer_none_shared i)) (deliveryReport_kept _ _))
  · exact kept_trans (withBuffers_kept (setBuffer_same_shared at_i (by rfl))) (requestBus_kept p _)

theorem loadBurstEnd_kept {p : Port} {i : Nat} {b : Buffer} {data words : List Word} {s : State}
    (at_i : bufferAt s i = some b) : Kept s (loadBurstEnd p i b data words s) := by
  unfold loadBurstEnd
  refine kept_trans (modifyEngine_kept s p fun e => { e with burstRegister := words }) ?_
  dsimp only
  split
  · exact kept_trans (modifyEngine_kept _ p _) (withBuffers_kept (setBuffer_same_shared (s := State.modifyEngine _ p _) at_i (by rfl)))
  · exact kept_trans (withBuffers_kept (setBuffer_same_shared (s := State.modifyEngine _ p _) at_i (by rfl))) (requestBus_kept p _)

end Sys2Proof.Machine
end

section
/-! Where the heads are and how the buffers are shared, after every command: the rotational position follows its table (R10), the selected
head is a head of the drive (R12), and the pool keeps its six buffers with at most three to a request (R123, R125). With them the ranges of
the queues and of the settings (R144, R159, R164, R168). -/

namespace Sys2Proof.Machine

open Sys2Proof.Safety

/-- The rotational position, the selected head and the shares of the buffers are kept. -/
structure PlaceKept (s t : State) : Prop where
  position : t.sequencer.position = s.sequencer.position
  head : t.sequencer.head = s.sequencer.head ∨ ∃ b, t.sequencer.head = headOf b
  buffers : BuffersShared s → BuffersShared t

theorem placeKept_of_kept {s t : State} (h : Kept s t) : PlaceKept s t := ⟨h.position, h.head, h.buffers⟩

theorem placeKept_refl (s : State) : PlaceKept s s := placeKept_of_kept (kept_refl s)

theorem placeKept_trans {s t u : State} (h : PlaceKept s t) (k : PlaceKept t u) : PlaceKept s u :=
  ⟨k.position.trans h.position, k.head.elim (fun e => h.head.imp e.trans fun ⟨b, e'⟩ => ⟨b, e.trans e'⟩) .inr,
    fun shared => k.buffers (h.buffers shared)⟩

theorem placeKept_of_same {s t : State} (sequencer : t.sequencer = s.sequencer) (buffers : t.buffers = s.buffers) : PlaceKept s t :=
  ⟨by rw [sequencer], .inl (by rw [sequencer]), (buffersShared_congr buffers).mpr⟩

theorem locksOnly_sequencer {s t : State} (h : LocksOnly s t) : t.sequencer = s.sequencer := by
  unfold LocksOnly at h
  exact (congrArg State.sequencer h).trans rfl

theorem locksOnly_buffers {s t : State} (h : LocksOnly s t) : t.buffers = s.buffers := by
  unfold LocksOnly at h
  exact (congrArg State.buffers h).trans rfl

theorem placeKept_of_locksOnly {s t : State} (h : LocksOnly s t) : PlaceKept s t :=
  placeKept_of_same (locksOnly_sequencer h) (locksOnly_buffers h)

theorem settled_placeKept {s t : State} (h : PlaceKept s t) : PlaceKept s (settle t) :=
  placeKept_trans h (placeKept_of_kept (settle_kept t))

theorem takeCommand_placeKept {p : Port} {owns : Byte → Bool} {decision : List Word → State → Answer} {s : State}
    (decided : ∀ command, PlaceKept s (decision command s).state) : PlaceKept s (takeCommand p owns decision s) := by
  unfold takeCommand
  split
  · exact placeKept_refl s
  · split
    · exact placeKept_refl s
    · split
      · exact placeKept_trans (decided _) (placeKept_of_same rfl rfl)
      · exact placeKept_refl s

theorem windowWrite_placeKept {p : Port} {effect : State → State} {s : State} (h : PlaceKept s (effect s)) :
    PlaceKept s (windowWrite p effect s) := by
  unfold windowWrite
  split
  · exact placeKept_refl s
  · exact h

/-! ### What the units decide -/

theorem decideTransfer_placeKept (p : Port) (x : Transfer) (s : State) : PlaceKept s (decideTransfer p x s).state := by
  unfold decideTransfer
  split
  · exact placeKept_refl s
  · split
    · exact placeKept_refl s
    · next i _ =>
      have entered : PlaceKept s (s.withRequests (s.requests ++ [newRequest i p x s])) := placeKept_of_same rfl rfl
      show PlaceKept s (acceptTransfer i p x s)
      unfold acceptTransfer
      dsimp only
      split
      · exact settled_placeKept entered
      · exact entered

theorem decideCancel_placeKept (p : Port) (tag : BitVec 8) (s : State) : PlaceKept s (decideCancel p tag s).state := by
  unfold decideCancel
  split
  · exact placeKept_refl s
  · split
    · exact settled_placeKept (placeKept_of_kept (enterHeld_kept _ _ _ s))
    · exact settled_placeKept (placeKept_of_kept (enterHeld_kept _ _ _ s))
    · exact settled_placeKept (placeKept_of_kept (askStop_kept _ _ s))
    · exact placeKept_refl s
    · exact placeKept_refl s

theorem ceaseLock_placeKept (i : Nat) (lock : Lock) (kind : EndKind) (s : State) : PlaceKept s (ceaseLock i lock kind s) :=
  placeKept_trans (placeKept_of_locksOnly (setLockState_locksOnly i _ s))
    (placeKept_of_kept (kept_trans (lockCessation_kept _ _ _) (kept_trans (joinPending_kept _ _ _) (cessationStop_kept _ _))))

theorem forceUnreported_placeKept (i : Nat) (lock : Lock) (s : State) : PlaceKept s (forceUnreported i lock s) :=
  placeKept_trans (placeKept_of_locksOnly (setLockState_locksOnly i _ s))
    (placeKept_of_kept (kept_trans (lockCessation_kept _ _ _) (cessationStop_kept _ _)))

theorem reexamined_placeKept {s t : State} (h : PlaceKept s t) : PlaceKept s (reexamine t) :=
  placeKept_trans h (placeKept_of_locksOnly (reexamine_locksOnly t))

theorem decideForceRelease_placeKept (p : Port) (h : Handle) (s : State) : PlaceKept s (decideForceRelease p h s).state := by
  unfold decideForceRelease
  split
  · split
    · exact placeKept_refl s
    · exact settled_placeKept (reexamined_placeKept (ceaseLock_placeKept _ _ _ s))
    · exact settled_placeKept (reexamined_placeKept (forceUnreported_placeKept _ _ s))
  · exact placeKept_refl s

theorem tickLease_placeKept (s : State) (i : Nat) : PlaceKept s (tickLease s i) := by
  unfold tickLease
  split
  · split
    · exact ceaseLock_placeKept _ _ _ s
    · exact placeKept_of_locksOnly (setLockState_locksOnly _ _ s)
  · exact placeKept_refl s

theorem foldl_placeKept {α : Type} (f : State → α → State) (h : ∀ s x, PlaceKept s (f s x)) (l : List α) (s : State) :
    PlaceKept s (l.foldl f s) := by
  induction l generalizing s with
  | nil => exact placeKept_refl s
  | cons x l ih => exact placeKept_trans (h s x) (ih (f s x))

theorem afterLeases_placeKept (s : State) : PlaceKept s (afterLeases s) := by
  have leases : PlaceKept s (tickLeases s) := foldl_placeKept _ tickLease_placeKept _ s
  unfold afterLeases
  split
  · exact reexamined_placeKept leases
  · exact leases

theorem afterWaits_locksOnly (s : State) : LocksOnly s (afterWaits s) := by
  have waits : LocksOnly s (tickWaiters s) := by
    unfold tickWaiters
    generalize s.waiters = l
    induction l generalizing s with
    | nil => exact locksOnly_refl s
    | cons w l ih => exact locksOnly_trans (tickWaiter_locksOnly s w) (ih _)
  unfold afterWaits
  split
  · exact locksOnly_trans waits (reexamine_locksOnly _)
  · exact waits

theorem resetPortState_placeKept (p : Port) (s : State) : PlaceKept s (resetPortState p s) := placeKept_of_same rfl rfl

theorem portReset_placeKept (p : Port) (s : State) : PlaceKept s (portReset p s) :=
  settled_placeKept (reexamined_placeKept (placeKept_trans (placeKept_of_kept (resetRequests_kept p s))
    (placeKept_trans (resetPortState_placeKept p _) (placeKept_of_locksOnly (resetLocks_locksOnly p _)))))

theorem postItem_placeKept {item : OwnerRef} {s t : State} {record : Record} (h : postItem item s = some (record, t)) :
    PlaceKept s t := by
  unfold postItem at h
  split at h
  · split at h
    · cases h
    · split at h <;> cases h
      exact placeKept_of_kept (removeRequest_kept _ s)
  · split at h <;> cases h
    · exact placeKept_of_locksOnly (setLockState_locksOnly _ _ s)
    · exact reexamined_placeKept (placeKept_of_locksOnly (setLockState_locksOnly _ _ s))
    · exact reexamined_placeKept (placeKept_of_locksOnly (setLockState_locksOnly _ _ s))
  · split at h
    · cases h
    · split at h <;> cases h
      exact reexamined_placeKept (placeKept_of_locksOnly (removeWaiter_locksOnly _ s))

/-! ### After every command -/

/-- The position after a command as its table gives it, a head of the drive, and the buffers shared. -/
def PlaceAfter (c : Instr) (s : State) : Prop :=
  ∃ t, exec c s = .next t ∧ t.sequencer.position = positionAfter c s ∧
    (t.sequencer.head = s.sequencer.head ∨ ∃ b, t.sequencer.head = headOf b) ∧ (BuffersShared s → BuffersShared t)

/-- A command that is no row of the table keeps the place of the heads. -/
theorem placeAfter_of_kept {c : Instr} {s t : State} (next : exec c s = .next t)
    (row : positionAfter c s = s.sequencer.position) (h : PlaceKept s t) : PlaceAfter c s :=
  ⟨t, next, h.position.trans row.symm, h.head, h.buffers⟩

/-- A command that is a row of the table sets the position, and keeps the place of the heads otherwise. -/
theorem placeAfter_of_placed {c : Instr} {s m t : State} (next : exec c s = .next t)
    (row : m.sequencer.position = positionAfter c s) (head : m.sequencer.head = s.sequencer.head) (buffers : m.buffers = s.buffers)
    (h : PlaceKept m t) : PlaceAfter c s :=
  ⟨t, next, h.position.trans row, h.head.imp_left (·.trans head), fun shared => h.buffers ((buffersShared_congr buffers).mpr shared)⟩

theorem sensed_placeKept (wp : Bool) (s : State) : PlaceKept s (senseWriteProtect wp s) := placeKept_of_same rfl rfl

theorem index_placeAfter (wp : Bool) (s : State) : PlaceAfter (.index wp) s := by
  by_cases ready : s.drive.ready = true
  · refine placeAfter_of_placed (m := setPosition (some 0) (senseWriteProtect wp s)) (congrArg Host.Outcome.next (if_pos ready))
      (if_pos ready).symm rfl rfl ?_
    dsimp only
    split
    · exact placeKept_of_kept (indexInSearch_kept _)
    · exact placeKept_of_kept (cutField_kept _)
    · exact placeKept_of_kept (indexInFormat_kept _)
    · exact placeKept_refl _
  · exact placeAfter_of_kept (congrArg Host.Outcome.next (if_neg ready)) (if_neg ready) (sensed_placeKept wp s)

theorem blockMark_placeAfter (wp : Bool) (s : State) : PlaceAfter (.blockMark wp) s := by
  by_cases ready : s.drive.ready = true
  · refine placeAfter_of_placed
      (m := setPosition (positionAfterMark s.sequencer.position) (senseWriteProtect wp s)) (congrArg Host.Outcome.next (if_pos ready))
      (if_pos ready).symm rfl rfl ?_
    dsimp only
    split
    · exact placeKept_of_kept (modifyService_kept _ _)
    · exact placeKept_of_kept (cutField_kept _)
    · exact placeKept_of_kept (markInFormat_kept _)
    · exact placeKept_refl _
  · exact placeAfter_of_kept (congrArg Host.Outcome.next (if_neg ready)) (if_neg ready) (sensed_placeKept wp s)

theorem fallingReady_placeAfter (wp : Bool) (s : State) : PlaceAfter (.fallingReady wp) s := by
  by_cases ready : s.drive.ready = true
  · refine placeAfter_of_placed (m := loseReady (senseWriteProtect wp s)) (congrArg Host.Outcome.next (if_pos ready))
      (if_pos ready).symm rfl rfl ?_
    dsimp only
    split
    · exact placeKept_refl _
    · exact placeKept_refl _
    · exact placeKept_of_kept (enterHolding_kept _)
    · exact placeKept_of_kept (enterHolding_kept _)
    · exact placeKept_of_kept (kept_trans (endOnMedium_kept _ _ _) (kept_trans (enterHolding_kept _) (settle_kept _)))
  · exact placeAfter_of_kept (congrArg Host.Outcome.next (if_neg ready)) (if_neg ready) (sensed_placeKept wp s)

theorem headerInSearch_of_error {field : List Byte} (h : readHeader field = none) (v : Service) (s : State) :
    headerInSearch field v s = s := by
  simp only [headerInSearch, h]

theorem headerInSearch_of_elsewhere {field : List Byte} {h : Header} {s : State} (read : readHeader field = some h)
    (elsewhere : h.belongs s.sequencer = false) (v : Service) : headerInSearch field v s = settle (headerMismatch s) := by
  simp [headerInSearch, read, elsewhere]

/-- A header of the place the heads are at fixes the position, whatever it is taken for (R10, R104). -/
theorem headerInSearch_of_belongs {field : List Byte} {h : Header} {s : State} (read : readHeader field = some h)
    (belongs : h.belongs s.sequencer = true) (v : Service) :
    PlaceKept (setPosition (some ((h.block + 1) % Config.blocksPerTrack)) s) (headerInSearch field v s) := by
  simp only [headerInSearch, read, if_pos belongs]
  split
  · split
    · exact placeKept_refl _
    · exact placeKept_of_kept (targetHeader_kept _ _ _ _)
  · exact placeKept_refl _

/-- A header field ends in SEARCHING after its mark was taken there. -/
theorem exec_headerRead_of_reading {s : State} {v : Service} (service : s.sequencer.service = some v)
    (reading : s.sequencer.state = .searching ∧ v.headerReading = true) (wp : Bool) (field : List Byte) :
    exec (.headerRead wp field) s = .next (headerInSearch field { v with headerReading := false }
      ((senseWriteProtect wp s).modifySequencer fun q => { q with service := some { v with headerReading := false } })) := by
  simp [exec, execHeaderRead, senseWriteProtect, State.modifyDrive, service, reading]

theorem exec_headerRead_of_not_reading {s : State}
    (h : ∀ v, s.sequencer.service = some v → ¬(s.sequencer.state = .searching ∧ v.headerReading = true)) (wp : Bool)
    (field : List Byte) : exec (.headerRead wp field) s = .next (senseWriteProtect wp s) := by
  cases service : s.sequencer.service with
  | none => simp [exec, execHeaderRead, senseWriteProtect, State.modifyDrive, service]
  | some v =>
    have := h v service
    simp only [exec, execHeaderRead, senseWriteProtect, State.modifyDrive, State.withDrive_fields, service, if_neg this]

theorem headerRead_placeAfter (wp : Bool) (field : List Byte) (s : State) : PlaceAfter (.headerRead wp field) s := by
  by_cases reading : ∃ v, s.sequencer.service = some v ∧ s.sequencer.state = .searching ∧ v.headerReading = true
  · obtain ⟨v, service, searching, flag⟩ := reading
    have next := exec_headerRead_of_reading service ⟨searching, flag⟩ wp field
    cases read : readHeader field with
    | none =>
      rw [headerInSearch_of_error read] at next
      refine placeAfter_of_kept next (by simp [positionAfter, service, read]) ⟨rfl, .inl rfl, id⟩
    | some h =>
      let m := (senseWriteProtect wp s).modifySequencer fun q => { q with service := some { v with headerReading := false } }
      cases belongs : h.belongs s.sequencer with
      | false =>
        have elsewhere : h.belongs m.sequencer = false := belongs
        rw [headerInSearch_of_elsewhere read elsewhere] at next
        refine placeAfter_of_kept next ?_
          (placeKept_trans (t := m) ⟨rfl, .inl rfl, id⟩ (settled_placeKept (placeKept_of_kept (headerMismatch_kept m))))
        simp [positionAfter, service, read, belongs]
      | true =>
        have here : h.belongs m.sequencer = true := belongs
        refine placeAfter_of_placed (m := setPosition (some ((h.block + 1) % Config.blocksPerTrack)) m) next ?_ rfl rfl
          (headerInSearch_of_belongs read here _)
        simp [positionAfter, service, read, searching, flag, belongs, setPosition, State.modifySequencer]
  · have not : ∀ v, s.sequencer.service = some v → ¬(s.sequencer.state = .searching ∧ v.headerReading = true) :=
      fun v service h => reading ⟨v, service, h⟩
    refine placeAfter_of_kept (exec_headerRead_of_not_reading not wp field) ?_ (sensed_placeKept wp s)
    cases service : s.sequencer.service with
    | none => simp [positionAfter, service]
    | some v =>
      cases read : readHeader field with
      | none => simp [positionAfter, service, read]
      | some h =>
        have row : ¬(s.sequencer.state = .searching ∧ v.headerReading = true ∧ h.belongs s.sequencer = true) :=
          fun ⟨searching, flag, _⟩ => not v service ⟨searching, flag⟩
        simp only [positionAfter, service, read, if_neg row]

theorem dataFieldEnd_placeAfter (wp : Bool) (field : List Byte) (s : State) : PlaceAfter (.dataFieldEnd wp field) s := by
  refine placeAfter_of_kept rfl rfl (placeKept_trans (sensed_placeKept wp s) ?_)
  split
  · exact placeKept_refl _
  · split
    · exact placeKept_refl _
    · split
      · split
        · exact placeKept_of_kept (writeFieldEnd_kept _ _)
        · exact placeKept_of_kept (readFieldEnd_kept _ _ field _)
      · exact placeKept_of_kept (formatFieldEnd_kept _ _)
      · exact placeKept_refl _

theorem seekDone_placeAfter (wp : Bool) (s : State) : PlaceAfter (.seekDone wp) s := by
  refine placeAfter_of_kept rfl rfl (placeKept_trans (sensed_placeKept wp s) ?_)
  split
  · exact placeKept_refl _
  · next positioning _ =>
    refine placeKept_trans (t := (endPositioning (senseWriteProtect wp s)).modifySequencer fun q =>
      { q with believed := some positioning.cylinder }) ⟨rfl, .inl rfl, id⟩ ?_
    dsimp only
    split
    · exact settled_placeKept ⟨rfl, .inl rfl, id⟩
    · split
      · exact placeKept_refl _
      · exact placeKept_of_kept (seekArrived_kept _ _)
    · exact placeKept_refl _

theorem positioningTimeLimit_placeAfter (s : State) : PlaceAfter .positioningTimeLimit s := by
  refine placeAfter_of_kept rfl rfl ?_
  split
  · refine placeKept_trans (placeKept_of_kept (endPositioning_kept s)) ?_
    dsimp only
    split
    · exact placeKept_trans (t := (endPositioning s).modifySequencer fun q => { q with state := .offline }) ⟨rfl, .inl rfl, id⟩
        (placeKept_of_kept (offlineReport_kept _))
    · split
      · exact placeKept_refl _
      · split
        · exact settled_placeKept (placeKept_of_kept (endOnMedium_kept _ _ _))
        · exact settled_placeKept (placeKept_of_kept (headerMismatch_kept _))
    · exact placeKept_refl _
  · exact placeKept_refl s

theorem settleExpiry_placeAfter (s : State) : PlaceAfter .settleExpiry s := by
  refine placeAfter_of_kept rfl rfl ?_
  split
  · refine placeKept_trans (t := s.modifySequencer fun q => { q with settleTimer := none }) ⟨rfl, .inl rfl, id⟩ ?_
    dsimp only
    split
    · exact placeKept_refl _
    · split
      · exact settled_placeKept (placeKept_of_kept (enterFormatting_kept _))
      · exact placeKept_of_kept (enterSearching_kept _)
  · exact placeKept_refl s

theorem burstEnd_placeAfter (p : Port) (words : Vector Word 16) (s : State) : PlaceAfter (.burstEnd p words) s := by
  refine placeAfter_of_kept rfl rfl ?_
  split
  · split
    · exact settled_placeKept (placeKept_of_kept (modifyEngine_kept s p _))
    · split
      · exact placeKept_refl s
      · split
        · exact placeKept_refl s
        · next at_i =>
          split
          · exact settled_placeKept (placeKept_of_kept (drainBurstEnd_kept at_i))
          · exact settled_placeKept (placeKept_of_kept (loadBurstEnd_kept at_i))
          · exact placeKept_refl s
  · exact placeKept_refl s

theorem hostBusTimeout_placeAfter (p : Port) (s : State) : PlaceAfter (.hostBusTimeout p) s := by
  refine placeAfter_of_kept rfl rfl ?_
  split
  · split
    · exact placeKept_refl s
    · exact settled_placeKept (placeKept_of_kept (kept_trans (modifyEngine_kept s p _)
        (kept_trans (freeBuffers_kept _ _) (timeoutReport_kept _ _))))
  · exact placeKept_refl s

theorem leaseTick_placeAfter (s : State) : PlaceAfter .leaseTick s := by
  have ticked := placeKept_trans (afterLeases_placeKept s) (placeKept_of_locksOnly (afterWaits_locksOnly _))
  refine placeAfter_of_kept (exec_leaseTick_eq s) rfl ?_
  split
  · exact settled_placeKept ticked
  · exact ticked

theorem riseReady_placeKept (s : State) : PlaceKept s (riseReady s) := by
  unfold riseReady
  dsimp only
  split <;> exact ⟨rfl, .inl rfl, id⟩

theorem exec_placeAfter (c : Instr) (s : State) : PlaceAfter c s := by
  cases c with
  | powerOnReset ready wp a b c d =>
    cases ready <;> refine ⟨_, rfl, rfl, .inr ⟨0, rfl⟩, fun _ => ?_⟩ <;> exact (buffersShared_iff _).mpr ⟨rfl, by
      intro entry
      show (List.replicate 6 none).countP (boundTo entry) ≤ 3
      rw [List.countP_replicate]
      exact Nat.zero_le 3⟩
  | initAsserted p =>
    cases held : s.initLine.get p with
    | true => exact placeAfter_of_kept (by simp [exec, execInitAsserted, held]) rfl (placeKept_refl s)
    | false =>
      exact placeAfter_of_kept (exec_initAsserted_of_free held) rfl
        (placeKept_trans (t := s.withInitLine (s.initLine.set p true)) (placeKept_of_same rfl rfl) (portReset_placeKept p _))
  | initNegated p => exact placeAfter_of_kept rfl rfl (placeKept_of_same rfl rfl)
  | reset p value => exact placeAfter_of_kept rfl rfl (windowWrite_placeKept (portReset_placeKept p s))
  | go p value =>
    refine placeAfter_of_kept rfl rfl (windowWrite_placeKept ?_)
    dsimp only
    split <;> exact placeKept_of_same rfl rfl
  | stagingWordWrite p offset value =>
    refine placeAfter_of_kept rfl rfl (windowWrite_placeKept ?_)
    dsimp only
    split <;> exact placeKept_of_same rfl rfl
  | statusWordWrite p value => exact placeAfter_of_kept rfl rfl (windowWrite_placeKept (placeKept_of_same rfl rfl))
  | interruptEnableWordWrite p value => exact placeAfter_of_kept rfl rfl (windowWrite_placeKept (placeKept_of_same rfl rfl))
  | windowBaseWordWrite p value => exact placeAfter_of_kept rfl rfl (windowWrite_placeKept (placeKept_of_same rfl rfl))
  | responseWord0Read p => exact placeAfter_of_kept rfl rfl (placeKept_of_same rfl rfl)
  | completionPop p value => exact placeAfter_of_kept rfl rfl (windowWrite_placeKept (placeKept_of_same rfl rfl))
  | noticePop p value => exact placeAfter_of_kept rfl rfl (windowWrite_placeKept (placeKept_of_same rfl rfl))
  | read p => exact placeAfter_of_kept rfl rfl (takeCommand_placeKept fun _ => decideTransfer_placeKept p _ s)
  | write p => exact placeAfter_of_kept rfl rfl (takeCommand_placeKept fun _ => decideTransfer_placeKept p _ s)
  | verify p => exact placeAfter_of_kept rfl rfl (takeCommand_placeKept fun _ => decideTransfer_placeKept p _ s)
  | formatTrack p => exact placeAfter_of_kept rfl rfl (takeCommand_placeKept fun _ => decideTransfer_placeKept p _ s)
  | cancel p => exact placeAfter_of_kept rfl rfl (takeCommand_placeKept fun _ => decideCancel_placeKept p _ s)
  | acquire p =>
    exact placeAfter_of_kept rfl rfl (takeCommand_placeKept fun _ => placeKept_of_locksOnly (decideAcquire_locksOnly p _ s))
  | renew p =>
    exact placeAfter_of_kept rfl rfl (takeCommand_placeKept fun _ => placeKept_of_locksOnly (decideRenew_locksOnly p _ s))
  | release p =>
    exact placeAfter_of_kept rfl rfl (takeCommand_placeKept fun _ => placeKept_of_locksOnly (decideRelease_locksOnly p _ s))
  | forceRelease p => exact placeAfter_of_kept rfl rfl (takeCommand_placeKept fun _ => decideForceRelease_placeKept p _ s)
  | withdraw p =>
    exact placeAfter_of_kept rfl rfl (takeCommand_placeKept fun _ => placeKept_of_locksOnly (decideWithdraw_locksOnly p _ s))
  | watch p =>
    exact placeAfter_of_kept rfl rfl (takeCommand_placeKept fun _ => by rw [decideWatch_eq]; exact placeKept_of_same rfl rfl)
  | unwatch p =>
    exact placeAfter_of_kept rfl rfl (takeCommand_placeKept fun _ => by rw [decideUnwatch_eq]; exact placeKept_of_same rfl rfl)
  | claimToken p =>
    exact placeAfter_of_kept rfl rfl (takeCommand_placeKept fun _ => by rw [decideClaimToken_eq]; exact placeKept_of_same rfl rfl)
  | releaseToken p =>
    exact placeAfter_of_kept rfl rfl (takeCommand_placeKept fun _ => by
      rw [decideReleaseToken_eq]; exact placeKept_of_same rfl rfl)
  | setSetting p =>
    exact placeAfter_of_kept rfl rfl (takeCommand_placeKept fun _ => by rw [decideSetSetting_eq]; exact placeKept_of_same rfl rfl)
  | readSettings p => exact placeAfter_of_kept rfl rfl (takeCommand_placeKept fun _ => placeKept_refl s)
  | unknownCommand p => exact placeAfter_of_kept rfl rfl (takeCommand_placeKept fun _ => placeKept_refl s)
  | leaseTick => exact leaseTick_placeAfter s
  | leaseExpiry i =>
    refine placeAfter_of_kept rfl rfl ?_
    split
    · exact settled_placeKept (reexamined_placeKept (tickLease_placeKept s _))
    · exact placeKept_refl s
  | waitDenial slot =>
    refine placeAfter_of_kept rfl rfl ?_
    split
    · exact placeKept_refl s
    · split
      · exact reexamined_placeKept (placeKept_of_locksOnly (denyWaiter_locksOnly _ s))
      · exact placeKept_refl s
  | posting p =>
    refine placeAfter_of_kept rfl rfl ?_
    rcases postRecord_cases p s with h | ⟨_, rest, _, _, _, _, posted, h⟩ <;> rw [h]
    · exact placeKept_refl s
    · exact placeKept_trans (t := s.withPendingRecords (s.pendingRecords.set p rest)) (placeKept_of_same rfl rfl)
        (placeKept_trans (postItem_placeKept posted) (placeKept_of_same rfl rfl))
  | writeReport =>
    refine placeAfter_of_kept rfl rfl ?_
    split
    · exact placeKept_refl s
    · rw [reportToPorts_eq]
      exact placeKept_of_same rfl rfl
  | risingReady wp =>
    refine placeAfter_of_kept rfl rfl (placeKept_trans (sensed_placeKept wp s) ?_)
    split
    · exact placeKept_refl _
    · exact riseReady_placeKept _
  | fallingReady wp => exact fallingReady_placeAfter wp s
  | index wp => exact index_placeAfter wp s
  | blockMark wp => exact blockMark_placeAfter wp s
  | headerRead wp field => exact headerRead_placeAfter wp field s
  | dataFieldEnd wp field => exact dataFieldEnd_placeAfter wp field s
  | seekDone wp => exact seekDone_placeAfter wp s
  | positioningTimeLimit => exact positioningTimeLimit_placeAfter s
  | settleExpiry => exact settleExpiry_placeAfter s
  | faultHoldExpiry =>
    refine placeAfter_of_kept rfl rfl ?_
    split
    · exact placeKept_trans (t := s.modifySequencer fun q => { q with state := .offline, faultHoldTimer := none })
        ⟨rfl, .inl rfl, id⟩ (placeKept_of_kept (offlineReport_kept _))
    · exact placeKept_refl s
  | busGrant p =>
    refine placeAfter_of_kept rfl rfl ?_
    dsimp only
    split
    · split
      · exact placeKept_refl s
      · exact placeKept_of_kept (modifyEngine_kept s p _)
    · exact placeKept_refl s
  | burstEnd p words => exact burstEnd_placeAfter p words s
  | hostBusTimeout p => exact hostBusTimeout_placeAfter p s

/-- Settles O47, by the place of the heads after every command. -/
theorem rotationalPositionFollowsTheTable : Obligations.RotationalPositionFollowsTheTable := fun c s => by
  obtain ⟨t, next, position, _⟩ := exec_placeAfter c s
  exact ⟨t, next, position⟩

/-- Settles O56: a buffer is claimed only for an entry that holds fewer than three, and every other change keeps the entry or frees the
buffer. -/
theorem buffersStayShared : Obligations.BuffersStayShared := fun s t shared next => by
  rcases step_cases next with rfl | ⟨c, rest, next⟩
  · exact shared
  · obtain ⟨u, isNext, _, _, buffers⟩ := exec_placeAfter c (s.withPending rest)
    rw [next] at isNext
    cases isNext
    exact buffers shared

/-! ### The position and the head stay within the track -/

theorem headOf_lt (b : Nat) : headOf b < 2 := by
  unfold headOf Config.blocksPerCylinder Config.blocksPerTrack
  omega

/-- A row of the table gives UNKNOWN, a block of the track, or the position as it was. -/
theorem positionAfter_lt {c : Instr} {s : State} (h : ∀ b, s.sequencer.position = some b → b < Config.blocksPerTrack) (b : Nat)
    (k : positionAfter c s = some b) : b < Config.blocksPerTrack := by
  unfold positionAfter at k
  split at k
  · cases k
  · split at k
    · cases k
      decide
    · exact h b k
  · split at k
    · obtain ⟨a, _, rfl⟩ := Option.map_eq_some_iff.mp k
      exact Nat.mod_lt _ (by decide)
    · exact h b k
  · split at k
    · cases k
    · exact h b k
  · split at k
    · split at k
      · cases k
        exact Nat.mod_lt _ (by decide)
      · exact h b k
    · exact h b k
  · exact h b k

theorem step_rotationSound {s t : State} (next : step s = .next t) (h : RotationSound s) : RotationSound t := by
  rcases step_cases next with rfl | ⟨c, rest, next⟩
  · exact h
  · obtain ⟨u, isNext, position, head, _⟩ := exec_placeAfter c (s.withPending rest)
    rw [next] at isNext
    cases isNext
    refine ⟨fun b at_b => positionAfter_lt h.1 b (position ▸ at_b), ?_⟩
    rcases head with same | ⟨b, isHead⟩
    · rw [same]
      exact h.2
    · rw [isHead]
      exact headOf_lt b

/-! ### The queues stay within their capacities -/

theorem queuesBounded_of_same {s t : State} (completions : t.completions = s.completions) (notices : t.notices = s.notices)
    (h : QueuesBounded s) : QueuesBounded t := fun p => by
  rw [completions, notices]
  exact h p

theorem queuesBounded_of_locksAndWork {s t : State} (k : LocksAndWork s t) (h : QueuesBounded s) : QueuesBounded t :=
  queuesBounded_of_same k.completions k.notices h

/-- The queues of one port replaced by queues that are bounded. -/
theorem queuesBounded_of_set {s t : State} {p : Port}
    (own : (t.completions.get p).length ≤ Config.completionCapacity ∧ (t.notices.get p).queue.length ≤ Config.noticeCapacity)
    (others : ∀ q, q ≠ p → t.completions.get q = s.completions.get q ∧ t.notices.get q = s.notices.get q)
    (h : QueuesBounded s) : QueuesBounded t := fun q => by
  by_cases same : q = p
  · exact same ▸ own
  · rw [(others q same).1, (others q same).2]
    exact h q

theorem offerNotice_queuesBounded (p : Port) (s : State) (n : Notice) (h : QueuesBounded s) : QueuesBounded (offerNotice p s n) := by
  unfold offerNotice
  dsimp only
  split
  · next room =>
    refine queuesBounded_of_set (s := s) (p := p) ⟨(h p).1, ?_⟩ (fun q k => ⟨rfl, PortMap.get_set_ne _ _ _ _ k⟩) h
    simp only [State.withNotices_fields, PortMap.get_set_same, List.length_append, List.length_singleton]
    exact room
  · refine queuesBounded_of_set (s := s) (p := p) ⟨(h p).1, ?_⟩ (fun q k => ⟨rfl, PortMap.get_set_ne _ _ _ _ k⟩) h
    simp only [State.withNotices_fields, PortMap.get_set_same]
    exact (h p).2

theorem reportToPort_queuesBounded (report : WriteReport) (p : Port) (s : State) (h : QueuesBounded s) :
    QueuesBounded (reportToPort report p s) := by
  unfold reportToPort
  split
  · exact h
  · generalize matchingNotices report (s.watches.get p) = l
    induction l generalizing s with
    | nil => exact h
    | cons n l ih => exact ih _ (offerNotice_queuesBounded p s n h)

theorem postRecord_queuesBounded (p : Port) (s : State) (h : QueuesBounded s) : QueuesBounded (postRecord p s) := by
  rcases postRecord_cases p s with same | ⟨_, _, record, t, room, _, posted, result⟩
  · rw [same]
    exact h
  · have k := postItem_locksAndWork posted
    have bounded : QueuesBounded t := queuesBounded_of_same k.completions k.notices h
    rw [result]
    refine queuesBounded_of_set (p := p) ⟨?_, (bounded p).2⟩ (fun q k => ⟨PortMap.get_set_ne _ _ _ _ k, rfl⟩) bounded
    have same : t.completions.get p = s.completions.get p := congrArg (PortMap.get · p) k.completions
    simp only [State.withCompletions_fields, PortMap.get_set_same, List.length_append, List.length_singleton, same]
    exact room

theorem portReset_queuesBounded (p : Port) (s : State) (h : QueuesBounded s) : QueuesBounded (portReset p s) := by
  have requests := resetRequests_workOnly p s
  have rest : LocksAndWork (resetPortState p (resetRequests p s)) (portReset p s) :=
    locksAndWork_trans (locksAndWork_of_locksOnly (locksOnly_trans (resetLocks_locksOnly p _) (reexamine_locksOnly _)))
      (locksAndWork_of_workOnly (settle_workOnly _))
  refine queuesBounded_of_locksAndWork rest (queuesBounded_of_set (p := p) ?_ (fun q k => ?_)
    (queuesBounded_of_same requests.completions requests.notices h))
  · have completions : (resetPortState p (resetRequests p s)).completions.get p = [] := PortMap.get_set_same _ _ _
    have notices : (resetPortState p (resetRequests p s)).notices.get p = ⟨[], false⟩ := PortMap.get_set_same _ _ _
    rw [completions, notices]
    exact ⟨Nat.zero_le _, Nat.zero_le _⟩
  · exact ⟨PortMap.get_set_ne _ _ _ _ k, PortMap.get_set_ne _ _ _ _ k⟩

theorem takeCommand_queuesBounded {p : Port} {owns : Byte → Bool} {decision : List Word → State → Answer} {s : State}
    (completions : ∀ command, (decision command s).state.completions = s.completions)
    (notices : ∀ command, (decision command s).state.notices = s.notices) (h : QueuesBounded s) :
    QueuesBounded (takeCommand p owns decision s) :=
  queuesBounded_of_same (takeCommand_reads State.completions (fun _ _ => rfl) completions)
    (takeCommand_reads State.notices (fun _ _ => rfl) notices) h

theorem takeCommand_queuesBounded_of_decided {p : Port} {owns : Byte → Bool} {decision : List Word → State → Answer} {s : State}
    (decided : ∀ command, LocksAndWork s (decision command s).state) (h : QueuesBounded s) :
    QueuesBounded (takeCommand p owns decision s) :=
  takeCommand_queuesBounded (fun command => (decided command).completions) (fun command => (decided command).notices) h

theorem windowWrite_queuesBounded {p : Port} {effect : State → State} {s : State} (bounded : QueuesBounded s → QueuesBounded (effect s))
    (h : QueuesBounded s) : QueuesBounded (windowWrite p effect s) := by
  unfold windowWrite
  split
  · exact h
  · exact bounded h

/-- After a command the queues are bounded when they were before it. -/
def QueuesKept (c : Instr) (s : State) : Prop := ∃ t, exec c s = .next t ∧ (QueuesBounded s → QueuesBounded t)

theorem queuesKept_of_locksAndWork {c : Instr} {s : State} (h : ∃ t, exec c s = .next t ∧ LocksAndWork s t) : QueuesKept c s := by
  obtain ⟨t, next, k⟩ := h
  exact ⟨t, next, queuesBounded_of_locksAndWork k⟩

theorem queuesKept_of_workOnly {c : Instr} {s : State} (h : ∃ t, exec c s = .next t ∧ WorkOnly s t) : QueuesKept c s := by
  obtain ⟨t, next, k⟩ := h
  exact queuesKept_of_locksAndWork ⟨t, next, locksAndWork_of_workOnly k⟩

theorem exec_queuesKept (c : Instr) (s : State) : QueuesKept c s := by
  have unchanged : ∀ {t : State}, t.completions = s.completions → t.notices = s.notices → QueuesBounded s → QueuesBounded t :=
    queuesBounded_of_same
  have work : ∀ {v u : State}, WorkOnly v u → LocksAndWork v u := locksAndWork_of_workOnly
  have locks : ∀ {v u : State}, LocksOnly v u → LocksAndWork v u := locksAndWork_of_locksOnly
  cases c with
  | powerOnReset ready wp a b c d =>
    obtain ⟨t, next, k⟩ := exec_powerOnReset_workOnly ready wp a b c d s
    refine ⟨t, next, fun _ => queuesBounded_of_same k.completions k.notices fun p => ?_⟩
    cases p <;> exact ⟨Nat.zero_le _, Nat.zero_le _⟩
  | initAsserted p =>
    cases held : s.initLine.get p with
    | true => exact ⟨s, by simp [exec, execInitAsserted, held], id⟩
    | false =>
      exact ⟨_, exec_initAsserted_of_free held, fun h => portReset_queuesBounded p _ (unchanged rfl rfl h)⟩
  | initNegated p => exact ⟨_, rfl, unchanged rfl rfl⟩
  | reset p value => exact ⟨_, rfl, windowWrite_queuesBounded (portReset_queuesBounded p s)⟩
  | go p value =>
    refine ⟨_, rfl, windowWrite_queuesBounded fun h => ?_⟩
    dsimp only
    split <;> exact unchanged rfl rfl h
  | stagingWordWrite p offset value =>
    refine ⟨_, rfl, windowWrite_queuesBounded fun h => ?_⟩
    dsimp only
    split <;> exact unchanged rfl rfl h
  | statusWordWrite p value =>
    refine ⟨_, rfl, windowWrite_queuesBounded fun h => queuesBounded_of_set (s := s) (p := p) ⟨(h p).1, ?_⟩
      (fun q k => ⟨rfl, PortMap.get_set_ne _ _ _ _ k⟩) h⟩
    simpa only [State.withNotices_fields, PortMap.get_set_same] using (h p).2
  | interruptEnableWordWrite p value => exact ⟨_, rfl, windowWrite_queuesBounded (unchanged rfl rfl)⟩
  | windowBaseWordWrite p value => exact ⟨_, rfl, windowWrite_queuesBounded (unchanged rfl rfl)⟩
  | responseWord0Read p => exact ⟨_, rfl, unchanged rfl rfl⟩
  | completionPop p value =>
    refine ⟨_, rfl, windowWrite_queuesBounded fun h => queuesBounded_of_set (s := s) (p := p) ⟨?_, (h p).2⟩
      (fun q k => ⟨PortMap.get_set_ne _ _ _ _ k, rfl⟩) h⟩
    simp only [State.withCompletions_fields, PortMap.get_set_same, List.length_tail]
    exact (Nat.sub_le _ _).trans (h p).1
  | noticePop p value =>
    refine ⟨_, rfl, windowWrite_queuesBounded fun h => queuesBounded_of_set (s := s) (p := p) ⟨(h p).1, ?_⟩
      (fun q k => ⟨rfl, PortMap.get_set_ne _ _ _ _ k⟩) h⟩
    simp only [State.withNotices_fields, PortMap.get_set_same, List.length_tail]
    exact (Nat.sub_le _ _).trans (h p).2
  | read p => exact ⟨_, rfl, takeCommand_queuesBounded_of_decided fun _ => work (decideTransfer_workOnly p _ s)⟩
  | write p => exact ⟨_, rfl, takeCommand_queuesBounded_of_decided fun _ => work (decideTransfer_workOnly p _ s)⟩
  | verify p => exact ⟨_, rfl, takeCommand_queuesBounded_of_decided fun _ => work (decideTransfer_workOnly p _ s)⟩
  | formatTrack p => exact ⟨_, rfl, takeCommand_queuesBounded_of_decided fun _ => work (decideTransfer_workOnly p _ s)⟩
  | cancel p => exact ⟨_, rfl, takeCommand_queuesBounded_of_decided fun _ => work (decideCancel_workOnly p _ s)⟩
  | acquire p => exact ⟨_, rfl, takeCommand_queuesBounded_of_decided fun _ => locks (decideAcquire_locksOnly p _ s)⟩
  | renew p => exact ⟨_, rfl, takeCommand_queuesBounded_of_decided fun _ => locks (decideRenew_locksOnly p _ s)⟩
  | release p => exact ⟨_, rfl, takeCommand_queuesBounded_of_decided fun _ => locks (decideRelease_locksOnly p _ s)⟩
  | forceRelease p => exact ⟨_, rfl, takeCommand_queuesBounded_of_decided fun _ => decideForceRelease_locksAndWork p _ s⟩
  | withdraw p => exact ⟨_, rfl, takeCommand_queuesBounded_of_decided fun _ => locks (decideWithdraw_locksOnly p _ s)⟩
  | watch p =>
    exact ⟨_, rfl, takeCommand_queuesBounded (fun _ => by rw [decideWatch_eq]; rfl) fun _ => by rw [decideWatch_eq]; rfl⟩
  | unwatch p =>
    exact ⟨_, rfl, takeCommand_queuesBounded (fun _ => by rw [decideUnwatch_eq]; rfl) fun _ => by rw [decideUnwatch_eq]; rfl⟩
  | claimToken p =>
    exact ⟨_, rfl, takeCommand_queuesBounded (fun _ => by rw [decideClaimToken_eq]; rfl) fun _ => by
      rw [decideClaimToken_eq]; rfl⟩
  | releaseToken p =>
    exact ⟨_, rfl, takeCommand_queuesBounded (fun _ => by rw [decideReleaseToken_eq]; rfl) fun _ => by
      rw [decideReleaseToken_eq]; rfl⟩
  | setSetting p =>
    exact ⟨_, rfl, takeCommand_queuesBounded (fun _ => by rw [decideSetSetting_eq]; rfl) fun _ => by
      rw [decideSetSetting_eq]; rfl⟩
  | readSettings p => exact ⟨_, rfl, takeCommand_queuesBounded (fun _ => rfl) fun _ => rfl⟩
  | unknownCommand p => exact ⟨_, rfl, takeCommand_queuesBounded (fun _ => rfl) fun _ => rfl⟩
  | leaseTick => exact queuesKept_of_locksAndWork (exec_leaseTick_locksAndWork s)
  | leaseExpiry i =>
    refine queuesKept_of_locksAndWork ⟨_, rfl, ?_⟩
    split
    · exact locksAndWork_trans (tickLease_locksAndWork s _)
        (locksAndWork_trans (reexamine_locksAndWork _) (work (settle_workOnly _)))
    · exact locksAndWork_refl s
  | waitDenial slot =>
    refine queuesKept_of_locksAndWork ⟨_, rfl, ?_⟩
    split
    · exact locksAndWork_refl s
    · split
      · exact locksAndWork_trans (locks (denyWaiter_locksOnly _ s)) (reexamine_locksAndWork _)
      · exact locksAndWork_refl s
  | posting p => exact ⟨_, rfl, postRecord_queuesBounded p s⟩
  | writeReport =>
    refine ⟨_, rfl, fun h => ?_⟩
    split
    · exact h
    · exact reportToPort_queuesBounded _ _ _ (reportToPort_queuesBounded _ _ _ (reportToPort_queuesBounded _ _ _
        (reportToPort_queuesBounded _ _ _ (unchanged rfl rfl h))))
  | risingReady wp => exact queuesKept_of_workOnly (exec_risingReady_workOnly wp s)
  | fallingReady wp => exact queuesKept_of_workOnly (exec_fallingReady_workOnly wp s)
  | index wp => exact queuesKept_of_workOnly (exec_index_workOnly wp s)
  | blockMark wp => exact queuesKept_of_workOnly (exec_blockMark_workOnly wp s)
  | headerRead wp field => exact queuesKept_of_workOnly (exec_headerRead_workOnly wp field s)
  | dataFieldEnd wp field => exact queuesKept_of_workOnly (exec_dataFieldEnd_workOnly wp field s)
  | seekDone wp => exact queuesKept_of_workOnly (exec_seekDone_workOnly wp s)
  | positioningTimeLimit => exact queuesKept_of_workOnly (exec_positioningTimeLimit_workOnly s)
  | settleExpiry => exact queuesKept_of_workOnly (exec_settleExpiry_workOnly s)
  | faultHoldExpiry => exact queuesKept_of_workOnly (exec_faultHoldExpiry_workOnly s)
  | busGrant p => exact queuesKept_of_workOnly (exec_busGrant_workOnly p s)
  | burstEnd p words => exact queuesKept_of_workOnly (exec_burstEnd_workOnly p words s)
  | hostBusTimeout p => exact queuesKept_of_workOnly (exec_hostBusTimeout_workOnly p s)

theorem step_queuesBounded {s t : State} (next : step s = .next t) (h : QueuesBounded s) : QueuesBounded t := by
  rcases step_cases next with rfl | ⟨c, rest, next⟩
  · exact h
  · obtain ⟨u, isNext, bounded⟩ := exec_queuesKept c (s.withPending rest)
    rw [next] at isNext
    cases isNext
    exact bounded h

/-! ### The settings stay within their ranges -/

/-- A value that passes the tests of its item leaves the settings in range. -/
theorem setItem_inRange {s : State} {item : Item} {v : Nat} (range : item.inRange v = true) (quota : quotaTest s.settings item v = true)
    (h : SettingsInRange s) : SettingsInRange (s.withSettings (s.settings.setItem item v)) := by
  obtain ⟨total, lease, retry, settle, hold, bus⟩ := h
  cases item <;> simp only [Item.inRange, quotaTest, Bool.and_eq_true, decide_eq_true_eq] at range quota
  case quota q => exact ⟨quota, lease, retry, settle, hold, bus⟩
  case maintenance q => exact ⟨total, lease, retry, settle, hold, bus⟩
  case leaseLength => exact ⟨total, range, retry, settle, hold, bus⟩
  case retryCount => exact ⟨total, lease, range, settle, hold, bus⟩
  case settleTime => exact ⟨total, lease, retry, range, hold, bus⟩
  case faultHold => exact ⟨total, lease, retry, settle, range, bus⟩
  case hostBusTimeout => exact ⟨total, lease, retry, settle, hold, range⟩

theorem decideSetSetting_inRange (p : Port) (itemWord : Word) (v : Nat) (s : State) (h : SettingsInRange s) :
    SettingsInRange (decideSetSetting p itemWord v s).state := by
  unfold decideSetSetting
  split
  · split
    · exact h
    · split
      · next tests =>
        obtain ⟨range, quota⟩ := (Bool.and_eq_true _ _).mp tests
        exact setItem_inRange range quota h
      · exact h
  · exact h

theorem settingsInRange_of_same {s t : State} (same : t.settings = s.settings) (h : SettingsInRange s) : SettingsInRange t := by
  unfold SettingsInRange at h ⊢
  rw [same]
  exact h

theorem reset_settingsInRange : SettingsInRange State.reset := by
  unfold SettingsInRange
  decide

theorem exec_settingsInRange (c : Instr) (s : State) : ∃ t, exec c s = .next t ∧ (SettingsInRange s → SettingsInRange t) := by
  have other : maySet c = false → ∃ t, exec c s = .next t ∧ (SettingsInRange s → SettingsInRange t) := fun h => by
    obtain ⟨t, next, same⟩ := commandsKeepToTheirPort.2 c s h
    exact ⟨t, next, settingsInRange_of_same same⟩
  cases c with
  | powerOnReset ready wp a b c d =>
    obtain ⟨t, next, k⟩ := exec_powerOnReset_workOnly ready wp a b c d s
    exact ⟨t, next, fun _ => settingsInRange_of_same k.settings reset_settingsInRange⟩
  | setSetting p =>
    refine ⟨_, rfl, fun h => ?_⟩
    unfold takeCommand
    split
    · exact h
    · split
      · exact h
      · split
        · exact settingsInRange_of_same rfl (decideSetSetting_inRange p _ _ s h)
        · exact h
  | _ => exact other rfl

theorem step_settingsInRange {s t : State} (next : step s = .next t) (h : SettingsInRange s) : SettingsInRange t := by
  rcases step_cases next with rfl | ⟨c, rest, next⟩
  · exact h
  · obtain ⟨u, isNext, kept⟩ := exec_settingsInRange c (s.withPending rest)
    rw [next] at isNext
    cases isNext
    exact kept h

/-- Settles O60, each range by what a step does to it. -/
theorem rangesAreKept : Obligations.RangesAreKept := fun _ _ next =>
  ⟨step_queuesBounded next, step_settingsInRange next, (step_lockPath next).lockTableShaped, step_rotationSound next⟩

end Sys2Proof.Machine
end

section
/-! The host port window: reset and its values, GO and the response handshake, the words that a read returns and what a write of a word
does (R95, R148, R160, R172 to R184). -/

namespace Sys2Proof.Machine

open Sys2Proof.Safety

/-! ### Reset -/

/-- Settles O3: the values stand in the definition of the state after reset, and power-on reset starts from it. -/
theorem powerOnResetStartsThePart : Obligations.PowerOnResetStartsThePart := by
  refine ⟨⟨fun p => ?_, rfl, rfl, rfl, rfl, rfl, rfl, rfl, rfl, rfl, rfl, rfl, rfl, rfl, rfl, rfl, rfl, rfl⟩, fun ready wp a b c d s => ?_⟩
  · cases p <;> exact ⟨rfl, rfl, rfl, rfl, rfl, rfl, rfl, rfl, rfl, rfl, rfl, rfl, rfl, rfl, rfl, rfl⟩
  · cases ready <;> rfl

theorem reset_locksCompatible : LocksCompatible State.reset := fun i j x y _ held _ => by
  rw [lockAt_reset] at held
  cases held

theorem reset_buffersShared : BuffersShared State.reset := ⟨rfl, fun _ => Nat.zero_le _⟩

theorem reset_oneServed : OneServed State.reset := by
  refine ⟨⟨List.nodup_nil, fun r mem => ?_⟩, rfl, rfl, fun v r service => ?_⟩
  · cases mem
  · cases service

theorem reset_noneLeftGrantable : NoneLeftGrantable State.reset := by
  refine ⟨⟨List.nodup_nil, fun w mem => ?_⟩, fun w mem => ?_⟩ <;> cases mem

/-- Settles O4: the tables and queues are empty after reset, and the settings in range. -/
theorem resetMeetsTheInvariants : Obligations.ResetMeetsTheInvariants := by
  refine ⟨fun p => ?_, reset_settingsInRange, ⟨rfl, fun e mem => ?_⟩, reset_locksCompatible, reset_buffersShared,
    ⟨fun b unknown => ?_, Nat.zero_lt_two⟩, ⟨fun idle => ?_, fun _ => rfl⟩, reset_oneServed, reset_noneLeftGrantable⟩
  · cases p <;> exact ⟨Nat.zero_le _, Nat.zero_le _⟩
  · rw [List.eq_of_mem_replicate mem]
    exact Nat.zero_lt_succ _
  · cases unknown
  · rcases idle with idle | idle <;> cases idle

/-! ### Writes of a window word -/

/-- Settles O6, by the window write of a held port. -/
theorem heldPortDisregardsWrites : Obligations.HeldPortDisregardsWrites := by
  refine ⟨fun p offset value s held => ?_, fun p s => rfl⟩
  have disregarded : ∀ effect, Host.Outcome.next (windowWrite p effect s) = (.next s : Result) := fun effect =>
    congrArg _ (windowWrite_of_held held effect)
  exact ⟨disregarded _, disregarded _, disregarded _, disregarded _, disregarded _, disregarded _, disregarded _, disregarded _,
    congrArg Host.Outcome.next (if_pos held)⟩

/-- Settles O7: GO by the state of the window. -/
theorem goAndResponseReadHandshake : Obligations.GoAndResponseReadHandshake := by
  refine ⟨fun p value s free => ⟨fun idle => ?_, fun command busy => ?_⟩, fun p s => rfl⟩
  · show Host.Outcome.next (windowWrite p _ s) = _
    rw [windowWrite_of_free free]
    simp only [idle]
    rfl
  · show Host.Outcome.next (windowWrite p _ s) = _
    rw [windowWrite_of_free free]
    simp only [busy]
    rfl

/-! ### Words as numbers -/

theorem append_toNat {m n : Nat} (x : BitVec m) (y : BitVec n) : (x ++ y).toNat = x.toNat * 2 ^ n + y.toNat := by
  rw [BitVec.toNat_append, ← Nat.shiftLeft_add_eq_or_of_lt y.isLt, Nat.shiftLeft_eq]

theorem wordOfBytes_toNat (high low : Byte) : (wordOfBytes high low).toNat = 256 * high.toNat + low.toNat := by
  rw [wordOfBytes, append_toNat]
  omega

theorem wordOfBytes_eq (high low : Byte) : wordOfBytes high low = BitVec.ofNat 16 (256 * high.toNat + low.toNat) := by
  rw [← wordOfBytes_toNat, BitVec.ofNat_toNat, BitVec.setWidth_eq]

/-- A response whose code and values are known as numbers, as words. -/
theorem responseWords_of_code {r : Response} {n : Nat} {values : List Word} (isCode : r.code.toNat = n) (isValues : r.values = values)
    (code : Byte) : responseWords code r = BitVec.ofNat 16 (256 * code.toNat + n) :: values := by
  rw [responseWords, wordOfBytes_eq, isCode, isValues]

theorem handleByte_toNat {h : Handle} (index : h.index < 16) (generation : h.generation < 16) :
    (handleByte h).toNat = 16 * h.index + h.generation := by
  rw [handleByte, append_toNat, BitVec.toNat_ofNat, BitVec.toNat_ofNat, Nat.mod_eq_of_lt index, Nat.mod_eq_of_lt generation]
  omega

theorem handleWord_eq {h : Handle} (index : h.index < 16) (generation : h.generation < 16) :
    wordOfBytes 0 (handleByte h) = BitVec.ofNat 16 (16 * h.index + h.generation) := by
  rw [← handleByte_toNat index generation, ← wordOfBytes_zero_toNat (handleByte h), BitVec.ofNat_toNat, BitVec.setWidth_eq]

/-! ### What the words read -/

theorem windowWord_staging {offset : Nat} (low : 7 ≤ offset) (high : offset ≤ 14) (s : State) (p : Port) :
    windowWord s p offset = (s.windows.get p).staging.getD (offset - 7) 0 := by
  unfold windowWord
  rw [if_neg (by omega), if_neg (by omega), if_neg (by omega), if_neg (by omega), if_pos (by omega)]

theorem windowWord_response {offset : Nat} (low : 15 ≤ offset) (high : offset ≤ 22) (s : State) (p : Port) :
    windowWord s p offset = (s.windows.get p).response.getD (offset - 15) 0 := by
  unfold windowWord
  rw [if_neg (by omega), if_neg (by omega), if_neg (by omega), if_neg (by omega), if_neg (by omega), if_pos (by omega)]

theorem windowWord_writeOnly {offset : Nat} (low : 3 ≤ offset) (high : offset ≤ 6) (s : State) (p : Port) :
    windowWord s p offset = 0 := by
  unfold windowWord
  rw [if_neg (by omega), if_neg (by omega), if_neg (by omega), if_pos (by omega)]

theorem exec_stagingWordWrite_of_free {p : Port} {s : State} (free : s.initLine.get p = false) {offset : Nat} (low : 7 ≤ offset)
    (high : offset ≤ 14) (value : Word) : exec (.stagingWordWrite p offset value) s = .next (s.withWindows
      (s.windows.set p { s.windows.get p with staging := (s.windows.get p).staging.set (offset - 7) value })) := by
  show Host.Outcome.next (windowWrite p _ s) = _
  rw [windowWrite_of_free free]
  exact congrArg _ (if_pos ⟨low, high⟩)

theorem exec_stagingWordWrite_of_readOnly {offset : Nat} (low : 15 ≤ offset) (p : Port) (s : State) (value : Word) :
    exec (.stagingWordWrite p offset value) s = .next s := by
  show Host.Outcome.next (windowWrite p _ s) = _
  unfold windowWrite
  split
  · rfl
  · exact congrArg _ (if_neg (by omega))

/-- The third settings word: the maintenance permissions below the holder. -/
theorem maintenanceWord_eq (a b c d : Bool) {n : Nat} (h : n < 8) :
    (0#9 ++ BitVec.ofNat 3 n ++ BitVec.ofBool d ++ BitVec.ofBool c ++ BitVec.ofBool b ++ BitVec.ofBool a : BitVec 16) =
      BitVec.ofNat 16 (a.toNat + 2 * b.toNat + 4 * c.toNat + 8 * d.toNat + 16 * n) := by
  apply BitVec.eq_of_toNat_eq
  simp only [append_toNat, BitVec.toNat_ofNat, BitVec.toNat_ofBool]
  have := a.toNat_le
  have := b.toNat_le
  have := c.toNat_le
  have := d.toNat_le
  omega

theorem quota_le {q : PortMap Nat} (h : quotaSum q ≤ Config.quotaTotal) :
    q.a ≤ 32 ∧ q.b ≤ 32 ∧ q.c ≤ 32 ∧ q.d ≤ 32 := by
  unfold quotaSum Config.quotaTotal at h
  omega

theorem wordOfBytes_ofNat {m n : Nat} (hm : m < 256) (hn : n < 256) :
    wordOfBytes (BitVec.ofNat 8 m) (BitVec.ofNat 8 n) = BitVec.ofNat 16 (n + 256 * m) := by
  rw [wordOfBytes_eq, BitVec.toNat_ofNat, BitVec.toNat_ofNat, Nat.mod_eq_of_lt hm, Nat.mod_eq_of_lt hn, Nat.add_comm]

theorem settingsWords_eq {s : State} (h : SettingsInRange s) {holder : Option Port} {n : Nat} (isHolder : holderNumber holder = n)
    (small : n < 8) : settingsWords s.settings holder =
      [s.settings.quota.a + 256 * s.settings.quota.b, s.settings.quota.c + 256 * s.settings.quota.d,
        s.settings.maintenance.a.toNat + 2 * s.settings.maintenance.b.toNat + 4 * s.settings.maintenance.c.toNat +
          8 * s.settings.maintenance.d.toNat + 16 * n,
        s.settings.leaseLength, s.settings.retryCount, s.settings.settleTime + 256 * s.settings.faultHold,
        s.settings.hostBusTimeout].map (BitVec.ofNat 16) := by
  obtain ⟨total, _, _, ⟨_, settle⟩, ⟨_, hold⟩, _⟩ := h
  obtain ⟨a, b, c, d⟩ := quota_le total
  have word1 : wordOfBytes (BitVec.ofNat 8 s.settings.quota.b) (BitVec.ofNat 8 s.settings.quota.a) = _ :=
    wordOfBytes_ofNat (by omega) (by omega)
  have word2 : wordOfBytes (BitVec.ofNat 8 s.settings.quota.d) (BitVec.ofNat 8 s.settings.quota.c) = _ :=
    wordOfBytes_ofNat (by omega) (by omega)
  have word6 : wordOfBytes (BitVec.ofNat 8 s.settings.faultHold) (BitVec.ofNat 8 s.settings.settleTime) = _ :=
    wordOfBytes_ofNat (by omega) (by omega)
  simp only [settingsWords, PortMap.get, isHolder, word1, word2, word6, maintenanceWord_eq _ _ _ _ small, wordOfNat, List.map_cons,
    List.map_nil]

/-- The responses whose words hold a code alone, with their codes (Table 11.3). -/
def plainResponses : List (Response × Nat) :=
  [(.done, 0x04), (.badParameter, 0x10), (.outOfRange, 0x11), (.hostRange, 0x12), (.quota, 0x13),
    (.tableFull, 0x14), (.duplicateTag, 0x15), (.notLocked, 0x16), (.notOwner, 0x17), (.staleHandle, 0x18),
    (.notFound, 0x19), (.conflict, 0x1A), (.overlap, 0x1B), (.waitFull, 0x1C), (.watchFull, 0x1D), (.inUse, 0x1E),
    (.notPermitted, 0x1F), (.noToken, 0x21), (.notReady, 0x22), (.tooLate, 0x23), (.unknownCommand, 0x24)]

theorem plainResponses_words : ∀ x ∈ plainResponses, x.1.code.toNat = x.2 ∧ x.1.values = List.replicate 7 0 := by decide

/-- Settles O8, by what each offset reads and by the words of each kind of response. -/
theorem stagingWordsReadBack : Obligations.StagingWordsReadBack := by
  refine ⟨fun p offset value s free => ⟨fun low high => ?_, fun low _ => exec_stagingWordWrite_of_readOnly low p s value⟩,
    fun p offset s => ⟨fun low high => windowWord_writeOnly low high s p, fun low high => windowWord_staging low high s p,
      fun low high => windowWord_response low high s p⟩,
    fun code r n mem => ?_, fun code r n v mem => ?_, fun code h index generation => ?_, fun code s holder n range mem => ?_⟩
  · refine ⟨_, exec_stagingWordWrite_of_free free low high value, rfl, fun length => ?_⟩
    rw [windowWord_staging low high]
    simp only [State.withWindows_fields, PortMap.get_set_same]
    rw [List.getD_eq_getElem?_getD, List.getElem?_set_self (by omega), Option.getD_some]
  · obtain ⟨isCode, isValues⟩ := plainResponses_words (r, n) mem
    exact responseWords_of_code isCode isValues code
  · simp only [List.mem_cons, Prod.mk.injEq, List.not_mem_nil, or_false] at mem
    rcases mem with ⟨rfl, rfl, _⟩ | ⟨rfl, rfl, _⟩ | ⟨rfl, rfl, _⟩ | ⟨rfl, rfl, rfl⟩ | ⟨rfl, rfl, rfl⟩ | ⟨rfl, rfl, rfl⟩ |
      ⟨rfl, rfl, rfl⟩ <;> exact responseWords_of_code rfl rfl code
  · exact responseWords_of_code (r := .granted h) rfl (congrArg (· :: List.replicate 6 0) (handleWord_eq index generation)) code
  · have holderIs : holderNumber holder = n ∧ n < 8 := by
      simp only [List.mem_cons, Prod.mk.injEq, List.not_mem_nil, or_false] at mem
      rcases mem with ⟨rfl, rfl⟩ | ⟨rfl, rfl⟩ | ⟨rfl, rfl⟩ | ⟨rfl, rfl⟩ | ⟨rfl, rfl⟩ <;> decide
    exact responseWords_of_code (r := .doneSettings s.settings holder) rfl (settingsWords_eq range holderIs.1 holderIs.2) code

/-! ### The status word -/

theorem statusWord_toNat {s : State} (h : QueuesBounded s) (p : Port) :
    (statusWord s p).toNat = 4096 * (s.notices.get p).queue.length + 256 * (s.completions.get p).length +
      8 * (s.windows.get p).state.isBusy.toNat + 4 * (s.notices.get p).lost.toNat +
      2 * (s.windows.get p).commandOverrun.toNat + (s.windows.get p).responseReady.toNat := by
  obtain ⟨completions, notices⟩ := h p
  unfold Config.completionCapacity at completions
  unfold Config.noticeCapacity at notices
  simp only [statusWord, append_toNat, BitVec.toNat_ofNat, BitVec.toNat_ofBool]
  omega

theorem getLsbD_eq_div {w : Nat} (x : BitVec w) (k : Nat) : x.getLsbD k = decide (x.toNat / 2 ^ k % 2 = 1) := by
  rw [← BitVec.testBit_toNat, Nat.testBit_eq_decide_div_mod_eq]

theorem extract_toNat {w : Nat} (x : BitVec w) (k n : Nat) : (x.extractLsb' k n).toNat = x.toNat / 2 ^ k % 2 ^ n := by
  rw [BitVec.extractLsb'_toNat, Nat.shiftRight_eq_div_pow]

theorem isBusy_iff (state : WindowState) : state.isBusy = true ↔ state ≠ .idle := by
  cases state <;> simp [WindowState.isBusy]

theorem decide_eq_one_of_toNat (b : Bool) {n : Nat} (h : n = b.toNat) : decide (n = 1) = b := by
  subst h
  cases b <;> rfl

/-- Settles O9: the write by the equation of a window write, the bits from the status word as a number. -/
theorem statusWordShowsAndClears : Obligations.StatusWordShowsAndClears := by
  refine ⟨fun p value s free => ?_, fun p s bounded => ?_⟩
  · show Host.Outcome.next (windowWrite p _ s) = _
    rw [windowWrite_of_free free]
    cases value.getLsbD 1 <;> cases value.getLsbD 2 <;> simp only [Bool.not_false, Bool.not_true, Bool.and_true, Bool.and_false] <;> rfl
  · have word : (windowWord s p 0).toNat = _ := statusWord_toNat bounded p
    obtain ⟨completions, notices⟩ := bounded p
    unfold Config.completionCapacity at completions
    unfold Config.noticeCapacity at notices
    have := (s.windows.get p).state.isBusy.toNat_le
    have := (s.notices.get p).lost.toNat_le
    have := (s.windows.get p).commandOverrun.toNat_le
    have := (s.windows.get p).responseReady.toNat_le
    simp only [getLsbD_eq_div, extract_toNat, word]
    refine ⟨decide_eq_one_of_toNat _ (by omega), decide_eq_one_of_toNat _ (by omega), decide_eq_one_of_toNat _ (by omega), ?_, by omega,
      by omega, by omega, decide_eq_false (by omega)⟩
    rw [← isBusy_iff, decide_eq_one_of_toNat (s.windows.get p).state.isBusy (by omega)]

/-! ### The record and notice words -/

theorem windowWord_record {offset : Nat} (low : 23 ≤ offset) (high : offset ≤ 26) (s : State) (p : Port) :
    windowWord s p offset = (recordWords (s.completions.get p)).getD (offset - 23) 0 := by
  unfold windowWord
  rw [if_neg (by omega), if_neg (by omega), if_neg (by omega), if_neg (by omega), if_neg (by omega), if_neg (by omega),
    if_pos (by omega)]

theorem windowWord_notice {offset : Nat} (low : 27 ≤ offset) (s : State) (p : Port) :
    windowWord s p offset = (noticeWords (s.notices.get p).queue).getD (offset - 27) 0 := by
  unfold windowWord
  rw [if_neg (by omega), if_neg (by omega), if_neg (by omega), if_neg (by omega), if_neg (by omega), if_neg (by omega),
    if_neg (by omega)]

theorem getD_replicate_zero (n k : Nat) : (List.replicate n (0 : Word)).getD k 0 = 0 := by
  rw [List.getD_eq_getElem?_getD, List.getElem?_replicate]
  split <;> rfl

theorem exec_completionPop_of_free {p : Port} {s : State} (free : s.initLine.get p = false) (value : Word) :
    exec (.completionPop p value) s = .next (s.withCompletions (s.completions.set p (s.completions.get p).tail)) :=
  congrArg Host.Outcome.next (windowWrite_of_free free _)

theorem exec_noticePop_of_free {p : Port} {s : State} (free : s.initLine.get p = false) (value : Word) :
    exec (.noticePop p value) s =
      .next (s.withNotices (s.notices.set p ⟨(s.notices.get p).queue.tail, (s.notices.get p).lost⟩)) :=
  congrArg Host.Outcome.next (windowWrite_of_free free _)

theorem PortMap.set_get {α : Type} (m : PortMap α) (p : Port) : m.set p (m.get p) = m := by
  cases p <;> rfl

/-- The words of the head record. -/
theorem windowWord_of_record {p : Port} {s : State} {record : Record} {rest : List Record} (h : s.completions.get p = record :: rest) :
    windowWord s p 23 = recordWord0 record ∧ windowWord s p 24 = recordWord1 record ∧ windowWord s p 25 = recordWord2 record ∧
      windowWord s p 26 = recordWord3 record := by
  refine ⟨?_, ?_, ?_, ?_⟩ <;> rw [windowWord_record (by omega) (by omega), h] <;> rfl

theorem transferDone_words (tag : BitVec 8) {status : Status} {done retries n : Nat} {failing : Option Nat} (hd : done ≤ 64)
    (hr : retries ≤ 7) (hf : ∀ block, failing = some block → block ≤ 5759) (hn : statusNumber status = n) (small : n < 16) :
    (recordWord0 (.transferDone tag status done retries failing)).toNat = 32768 + 4096 * 1 + 256 * n + tag.toNat ∧
      (recordWord1 (.transferDone tag status done retries failing)).toNat = (if failing.isSome then 32768 else 0) ∧
      (recordWord2 (.transferDone tag status done retries failing)).toNat = 256 * retries + done ∧
      (recordWord3 (.transferDone tag status done retries failing)).toNat = failing.getD 0 := by
  refine ⟨?_, ?_, ?_, ?_⟩
  · simp only [recordWord0, Record.kindNumber, append_toNat, BitVec.toNat_ofNat, hn]
    omega
  · simp only [recordWord1, append_toNat, BitVec.toNat_ofBool]
    cases failing <;> simp
  · simp only [recordWord2, append_toNat, BitVec.toNat_ofNat]
    omega
  · cases failing with
    | none => rfl
    | some block =>
      have := hf block rfl
      simp only [recordWord3, append_toNat, BitVec.toNat_ofNat, Option.getD_some]
      omega

theorem lockRecord_words {h : Handle} {record : Record} {n : Nat} (index : h.index < 16) (generation : h.generation < 16)
    (mem : (record, n) ∈ [(Record.lockGranted h, 2), (.lockExpired h, 4), (.lockForced h, 5)]) :
    (recordWord0 record).toNat = 32768 + 4096 * n ∧ (recordWord1 record).toNat = 16 * h.index + h.generation ∧
      recordWord2 record = 0 ∧ recordWord3 record = 0 := by
  have word1 : (wordOfBytes 0 (handleByte h)).toNat = 16 * h.index + h.generation := by
    rw [wordOfBytes_zero_toNat, handleByte_toNat index generation]
  simp only [List.mem_cons, Prod.mk.injEq, List.not_mem_nil, or_false] at mem
  rcases mem with ⟨rfl, rfl⟩ | ⟨rfl, rfl⟩ | ⟨rfl, rfl⟩ <;> refine ⟨?_, word1, rfl, rfl⟩ <;>
    simp only [recordWord0, Record.kindNumber, append_toNat, BitVec.toNat_ofNat] <;> rfl

theorem denied_words {waiter : Nat} (small : waiter < 8) :
    (recordWord0 (.lockDenied waiter)).toNat = 32768 + 4096 * 3 ∧ (recordWord1 (.lockDenied waiter)).toNat = waiter := by
  constructor
  · simp only [recordWord0, Record.kindNumber, append_toNat, BitVec.toNat_ofNat]
    rfl
  · simp only [recordWord1, append_toNat, BitVec.toNat_ofNat]
    omega

theorem noticeWord0_toNat {writer watch : Nat} (kind : BitVec 1) (hw : writer < 4) (hn : watch < 4) :
    (1#1 ++ 0#1 ++ BitVec.ofNat 2 writer ++ 0#2 ++ BitVec.ofNat 2 watch ++ 0#7 ++ kind : BitVec 16).toNat =
      32768 + 4096 * writer + 256 * watch + kind.toNat := by
  simp only [append_toNat, BitVec.toNat_ofNat]
  omega

/-- Settles O11: the pops by the tail of each queue, the words from the fields of the head. -/
theorem popsDiscardTheHead : Obligations.PopsDiscardTheHead := by
  refine ⟨fun p value s free => ⟨fun r rest h => ?_, fun h => ?_, fun n rest h => ?_, fun h => ?_⟩, fun p s => ⟨?_, ?_, ?_, ?_⟩,
    fun p s => ⟨?_, ?_⟩⟩
  · rw [exec_completionPop_of_free free, h]
    rfl
  · rw [exec_completionPop_of_free free, h, List.tail_nil, ← h, PortMap.set_get]
    rfl
  · rw [exec_noticePop_of_free free, h]
    rfl
  · have same : (⟨(s.notices.get p).queue.tail, (s.notices.get p).lost⟩ : NoticeQueue) = s.notices.get p := by
      rw [h, List.tail_nil, ← h]
    rw [exec_noticePop_of_free free, same, PortMap.set_get]
    rfl
  · intro h offset low high
    rw [windowWord_record low high, h]
    exact getD_replicate_zero 4 _
  · intro tag status done retries failing rest n h hd hr hf mem
    have isNumber : statusNumber status = n ∧ n < 16 := by
      simp only [List.mem_cons, Prod.mk.injEq, List.not_mem_nil, or_false] at mem
      rcases mem with ⟨rfl, rfl⟩ | ⟨rfl, rfl⟩ | ⟨rfl, rfl⟩ | ⟨rfl, rfl⟩ | ⟨rfl, rfl⟩ | ⟨rfl, rfl⟩ | ⟨rfl, rfl⟩ | ⟨rfl, rfl⟩ |
        ⟨rfl, rfl⟩ | ⟨rfl, rfl⟩ <;> decide
    obtain ⟨word0, word1, word2, word3⟩ := windowWord_of_record h
    rw [word0, word1, word2, word3]
    exact transferDone_words tag hd hr hf isNumber.1 isNumber.2
  · intro handle record rest n h index generation mem
    obtain ⟨word0, word1, word2, word3⟩ := windowWord_of_record h
    rw [word0, word1, word2, word3]
    exact lockRecord_words index generation mem
  · intro waiter rest h small
    obtain ⟨word0, word1, word2, word3⟩ := windowWord_of_record h
    rw [word0, word1, word2, word3]
    exact ⟨(denied_words small).1, (denied_words small).2, rfl, rfl⟩
  · intro h offset low high
    rw [windowWord_notice low, h]
    exact getD_replicate_zero 3 _
  · intro notice rest writer kind h watch first last isWriter isKind
    have writerIs : portNumber notice.writer = writer ∧ writer < 4 := by
      simp only [List.mem_cons, Prod.mk.injEq, List.not_mem_nil, or_false] at isWriter
      rcases isWriter with ⟨e, rfl⟩ | ⟨e, rfl⟩ | ⟨e, rfl⟩ | ⟨e, rfl⟩ <;> rw [e] <;> decide
    have kindIs : notice.kind.bit.toNat = kind := by
      simp only [List.mem_cons, Prod.mk.injEq, List.not_mem_nil, or_false] at isKind
      rcases isKind with ⟨e, rfl⟩ | ⟨e, rfl⟩ <;> rw [e] <;> rfl
    refine ⟨?_, ?_, ?_⟩ <;> rw [windowWord_notice (by omega), h]
    · rw [← kindIs, ← writerIs.1]
      exact noticeWord0_toNat _ (writerIs.1 ▸ writerIs.2) watch
    · show (wordOfNat _).toNat = _
      rw [wordOfNat, BitVec.toNat_ofNat]
      omega
    · show (wordOfNat _).toNat = _
      rw [wordOfNat, BitVec.toNat_ofNat]
      omega

end Sys2Proof.Machine
end

section
/-! The commands of the Lock Unit, the Watch List and the Shared Settings in hand: the tests each makes in their order, and what one that
passes them changes (chapters 2, 3, 9 and 10). -/

namespace Sys2Proof.Machine

open Sys2Proof.Safety

/-- A command in hand that its unit refuses is answered only. -/
theorem answeredOnly_of_taken {c : Instr} {p : Port} {s : State} {command : List Word} {code : Byte} {owns : Byte → Bool}
    {decision : List Word → State → Answer} (meaning : exec c s = .next (takeCommand p owns decision s))
    (h : InHand s p command code) (own : owns code = true) {r : Response} (decided : decision command s = ⟨r, s⟩) :
    AnsweredOnly c s p command r :=
  answeredOnly_of_refuse (exec_of_taken meaning h own decided)

/-! ### The tests of a handle (R18) -/

theorem handleTest_of_free {h : Handle} {s : State} (free : (lockAt s h.index).state = .free) : handleTest h s = .error .notFound := by
  simp only [handleTest, free]

theorem handleTest_of_stale {h : Handle} {s : State} (notFree : (lockAt s h.index).state ≠ .free)
    (stale : h.generation ≠ (lockAt s h.index).generation) : handleTest h s = .error .staleHandle := by
  unfold handleTest
  split
  · exact absurd ‹_› notFree
  · exact if_neg stale
  · exact if_neg stale

theorem handleTest_of_ended {h : Handle} {s : State} {lock : Lock} {kind : EndKind}
    (ended : lockAt s h.index = ⟨h.generation, .ended lock kind⟩) : handleTest h s = .error .notFound := by
  simp only [handleTest, ended, if_true]

theorem handleTest_of_held {h : Handle} {s : State} {lock : Lock} {grant : Grant}
    (held : lockAt s h.index = ⟨h.generation, .held lock grant⟩) : handleTest h s = .ok (lock, grant) := by
  simp only [handleTest, held, if_true]

theorem ownHandleTest_of_error {p : Port} {h : Handle} {s : State} {r : Response} (test : handleTest h s = .error r) :
    ownHandleTest p h s = .error r := by
  simp only [ownHandleTest, test]

theorem ownHandleTest_of_unreported {p : Port} {h : Handle} {s : State} {lock : Lock}
    (held : lockAt s h.index = ⟨h.generation, .held lock .unreported⟩) : ownHandleTest p h s = .error .notFound := by
  simp only [ownHandleTest, handleTest_of_held held]

theorem ownHandleTest_of_other {p : Port} {h : Handle} {s : State} {lock : Lock} {lease : Option Nat}
    (held : lockAt s h.index = ⟨h.generation, .held lock (.reported lease)⟩) (other : lock.owner ≠ p) :
    ownHandleTest p h s = .error .notOwner := by
  simp only [ownHandleTest, handleTest_of_held held, if_neg other]

theorem ownHandleTest_of_own {p : Port} {h : Handle} {s : State} {lock : Lock} {lease : Option Nat}
    (held : lockAt s h.index = ⟨h.generation, .held lock (.reported lease)⟩) (own : lock.owner = p) :
    ownHandleTest p h s = .ok lock := by
  simp only [ownHandleTest, handleTest_of_held held, if_pos own]

/-- A RENEW or a RELEASE whose own handle fails a test is answered with it. -/
theorem answeredOnly_of_ownHandleTest {c : Instr} {code : Byte} {p : Port} {command : List Word} {s : State} {r : Response}
    (mem : (c, code, true) ∈ [(Instr.renew p, 0x11#8, true), (.release p, 0x12, true), (.forceRelease p, 0x13, false)])
    (h : InHand s p command code) (test : ownHandleTest p (handleOf command) s = .error r) : AnsweredOnly c s p command r := by
  simp only [List.mem_cons, Prod.mk.injEq, List.not_mem_nil, or_false, Bool.true_eq_false, and_false] at mem
  rcases mem with ⟨rfl, rfl, _⟩ | ⟨rfl, rfl, _⟩
  · exact answeredOnly_of_taken rfl h rfl (by simp only [decideRenew, test]; rfl)
  · exact answeredOnly_of_taken rfl h rfl (by simp only [decideRelease, test]; rfl)

theorem answeredOnly_of_handleTest {c : Instr} {code : Byte} {own : Bool} {p : Port} {command : List Word} {s : State} {r : Response}
    (mem : (c, code, own) ∈ [(Instr.renew p, 0x11#8, true), (.release p, 0x12, true), (.forceRelease p, 0x13, false)])
    (h : InHand s p command code) (permitted : own = false → s.settings.maintenance.get p = true)
    (test : handleTest (handleOf command) s = .error r) : AnsweredOnly c s p command r := by
  cases own with
  | true => exact answeredOnly_of_ownHandleTest mem h (ownHandleTest_of_error test)
  | false =>
    simp only [List.mem_cons, Prod.mk.injEq, List.not_mem_nil, or_false, Bool.false_eq_true, and_false, false_or, and_true] at mem
    obtain ⟨rfl, rfl⟩ := mem
    exact answeredOnly_of_taken rfl h rfl (by simp only [decideForceRelease, if_pos (permitted rfl), test]; rfl)

/-- Settles O19, by the tests of a handle in their order. -/
theorem handleTestsInOrder : Obligations.HandleTestsInOrder := by
  intro p command s c code own mem h permitted handle
  refine ⟨fun free => ?_, fun notFree stale => ?_, fun lock kind ended => ?_, ?_, ?_⟩
  · exact answeredOnly_of_handleTest mem h permitted (handleTest_of_free free)
  · exact answeredOnly_of_handleTest mem h permitted (handleTest_of_stale notFree stale)
  · exact answeredOnly_of_handleTest mem h permitted (handleTest_of_ended ended)
  · rintro lock rfl held
    exact answeredOnly_of_ownHandleTest mem h (ownHandleTest_of_unreported held)
  · rintro lock lease rfl held other
    exact answeredOnly_of_ownHandleTest mem h (ownHandleTest_of_other held other)

/-! ### RENEW, RELEASE and WITHDRAW -/

/-- Settles O20, by the handle that passes its five tests. -/
theorem renewRestartsTheLease : Obligations.RenewRestartsTheLease := by
  intro p command s lock lease h held own
  have decided : decideRenew p (handleOf command) s =
      ⟨.done, setLockState (handleOf command).index (.held lock (.reported (startedLease s))) s⟩ := by
    simp only [decideRenew, ownHandleTest_of_own held own]
  have next := exec_of_taken (c := .renew p) (decision := fun cmd => decideRenew p (handleOf cmd)) rfl h rfl decided
  obtain ⟨t, isNext, answered, result⟩ := answered_of_post (by rfl) next
  refine ⟨t, isNext, answered, result.trans ?_⟩
  simp only [setLockState, held]
  rfl

/-- Settles O21: the handle passes its tests, and the lock is in use or freed. -/
theorem releaseFreesTheLock : Obligations.ReleaseFreesTheLock := by
  intro p command s lock lease h held own
  have test := ownHandleTest_of_own held own
  refine ⟨fun ⟨r, mem, isOwn, onMedium, overlaps⟩ => ?_, fun unused => ?_⟩
  · have inUse : lockInUse s p lock.extent = true :=
      List.any_eq_true.mpr ⟨r, mem, by simp only [isOwn, onMedium, overlaps, decide_true, Bool.and_self]⟩
    exact answeredOnly_of_taken rfl h rfl (by simp only [decideRelease, test, if_pos inUse]; rfl)
  · have notInUse : ¬ lockInUse s p lock.extent = true := fun inUse => by
      obtain ⟨r, mem, tests⟩ := List.any_eq_true.mp inUse
      simp only [Bool.and_eq_true, decide_eq_true_eq] at tests
      obtain ⟨⟨isOwn, onMedium⟩, overlaps⟩ := tests
      rw [unused r mem isOwn onMedium] at overlaps
      cases overlaps
    have decided : decideRelease p (handleOf command) s = ⟨.done, reexamine (setLockState (handleOf command).index .free s)⟩ := by
      simp only [decideRelease, test, if_neg notInUse]
    have next := exec_of_taken (c := .release p) (decision := fun cmd => decideRelease p (handleOf cmd)) rfl h rfl decided
    have windows : (reexamine (setLockState (handleOf command).index .free s)).windows = s.windows :=
      (reexamine_locksAndWork _).windows
    obtain ⟨t, isNext, answered, result⟩ := answered_of_post windows next
    refine ⟨t, isNext, answered, result.trans ?_⟩
    rw [← reexamine_withWindows]
    simp only [setLockState, held]
    rfl

theorem findWaiter_some {s : State} {slot : Nat} {w : Waiter} (h : findWaiter s slot = some w) : w ∈ s.waiters ∧ w.slot = slot :=
  ⟨List.mem_of_find?_eq_some h, of_decide_eq_true (List.find?_some (p := fun w : Waiter => decide (w.slot = slot)) h)⟩

theorem reexamine_waiters_sublist (s : State) : (reexamine s).waiters.Sublist s.waiters := (reexamine_reexamined s).waiters

/-- Settles O23: the tests of WITHDRAW in order, and a waiter that passes them leaves. -/
theorem withdrawRemovesTheWaiter : Obligations.WithdrawRemovesTheWaiter := by
  intro p command s h n
  have refused : ∀ r, decideWithdraw p n s = ⟨r, s⟩ → AnsweredOnly (.withdraw p) s p command r := fun r decided =>
    answeredOnly_of_taken (decision := fun cmd => decideWithdraw p (commandWord cmd 1).toNat) rfl h rfl decided
  refine ⟨fun high => refused _ (if_pos high), fun low missing => refused _ ?_, fun w low found notOwn => refused _ ?_,
    fun w wait low found own waiting => ?_⟩
  · simp only [decideWithdraw, if_neg (Nat.not_lt.mpr low), missing]
    rfl
  · have fails : ¬(w.lock.owner = p ∧ w.isWaiting = true) := by
      rintro ⟨own, waiting⟩
      rcases notOwn with other | denied
      · exact other own
      · simp [Waiter.isWaiting, denied] at waiting
    simp only [decideWithdraw, if_neg (Nat.not_lt.mpr low), found, if_neg fails]
    rfl
  · have passes : w.lock.owner = p ∧ w.isWaiting = true := ⟨own, by simp [Waiter.isWaiting, waiting]⟩
    have decided : decideWithdraw p n s = ⟨.done, reexamine (removeWaiter n s)⟩ := by
      simp only [decideWithdraw, if_neg (Nat.not_lt.mpr low), found, if_pos passes]
    have next := exec_of_taken (c := .withdraw p) (decision := fun cmd => decideWithdraw p (commandWord cmd 1).toNat) rfl h rfl decided
    have windows : (reexamine (removeWaiter n s)).windows = s.windows := (reexamine_locksAndWork _).windows
    obtain ⟨t, isNext, answered, result⟩ := answered_of_post windows next
    refine ⟨t, isNext, answered, fun v mem => ?_, result.trans (reexamine_withWindows (removeWaiter n s) t.windows).symm⟩
    rw [result] at mem
    exact of_decide_eq_true (List.mem_filter.mp ((reexamine_waiters_sublist (removeWaiter n s)).subset mem)).2

/-! ### ACQUIRE (R21 to R23, R43) -/

theorem exec_acquire {p : Port} {command : List Word} {s : State} (h : InHand s p command 0x10) {r : Response} {u : State}
    (decided : decideAcquire p command s = ⟨r, u⟩) :
    exec (.acquire p) s = .next (postResponse p (commandCode command) r u) := exec_of_taken rfl h rfl decided

/-- An ACQUIRE whose parameters pass becomes a claim. -/
theorem decideAcquire_of_good {p : Port} {command : List Word} {s : State} {mode : Mode}
    (isMode : modeOf (commandWord command 3) = some mode) (ordered : (extentOf command 1).first ≤ (extentOf command 1).last)
    (range : (extentOf command 1).last ≤ 5759) (apart : overlapsOwn s p (extentOf command 1) = false) :
    decideAcquire p command s = decideClaim ⟨p, extentOf command 1, mode⟩ (lowByte (commandWord command 4)).toNat s := by
  have passes : acquireRefusal p (extentOf command 1) (some mode) s = none := by
    unfold acquireRefusal
    rw [if_neg (by simp; omega), if_neg (by simpa [Config.lastBlock] using range), if_neg (by simp [apart])]
  simp only [decideAcquire, isMode, passes]

/-- An ACQUIRE whose parameters fail a test is refused. -/
theorem decideAcquire_of_refusal {p : Port} {command : List Word} {s : State} {r : Response}
    (refusal : acquireRefusal p (extentOf command 1) (modeOf (commandWord command 3)) s = some r) :
    decideAcquire p command s = ⟨r, s⟩ := by
  simp only [decideAcquire, refusal]
  rfl

theorem bars_of_conflict {x y : Lock} (h : x.bars y = true) :
    x.extent.overlaps y.extent = true ∧ (x.mode = .exclusive ∨ y.mode = .exclusive) := by
  simpa [Lock.bars] using h

theorem mode_ne_exclusive {m n : Mode} (h : m = .shared ∧ n = .shared) : ¬(m = .exclusive ∨ n = .exclusive) := by
  rintro (e | e)
  · rw [h.1] at e
    cases e
  · rw [h.2] at e
    cases e

/-- A claim conflicts with no HELD lock when the overlapping locks of other ports and it are SHARED. -/
theorem conflictsWithHeld_of_shared {s : State} {lock : Lock}
    (h : ∀ l ∈ heldLocks s, l.owner ≠ lock.owner → l.extent.overlaps lock.extent = true → l.mode = .shared ∧ lock.mode = .shared) :
    conflictsWithHeld s lock = false := by
  rw [conflictsWithHeld, List.any_eq_false]
  intro l mem conflict
  simp only [Lock.conflicts, Bool.and_eq_true, decide_eq_true_eq] at conflict
  obtain ⟨bars, other⟩ := conflict
  obtain ⟨overlap, exclusive⟩ := bars_of_conflict bars
  rw [overlaps_comm] at overlap
  exact mode_ne_exclusive (h l mem (Ne.symm other) overlap) exclusive.symm

/-- No WAITING waiter bars a claim when the overlapping ones and it are SHARED. -/
theorem barredBy_of_shared {waiters : List Waiter} {lock : Lock}
    (h : ∀ w ∈ waiters, w.isWaiting = true → w.lock.extent.overlaps lock.extent = true → w.lock.mode = .shared ∧ lock.mode = .shared) :
    barredBy waiters lock = false := by
  rw [barredBy, List.any_eq_false]
  intro w mem barred
  obtain ⟨waiting, bars⟩ := (Bool.and_eq_true _ _).mp barred
  obtain ⟨overlap, exclusive⟩ := bars_of_conflict bars
  exact mode_ne_exclusive (h w mem waiting overlap) exclusive

theorem overlapsOwn_of_apart {s : State} {p : Port} {x : Extent} (locks : ∀ l ∈ heldLocks s, l.owner = p → l.extent.overlaps x = false)
    (waiters : ∀ w ∈ s.waiters, w.isWaiting = true → w.lock.owner = p → w.lock.extent.overlaps x = false) :
    overlapsOwn s p x = false := by
  rw [overlapsOwn, Bool.or_eq_false_iff, List.any_eq_false, List.any_eq_false]
  refine ⟨fun l mem h => ?_, fun w mem h => ?_⟩ <;> simp only [Bool.and_eq_true, decide_eq_true_eq] at h
  · rw [locks l mem h.1] at h
    exact Bool.noConfusion h.2
  · rw [waiters w mem h.1.1 h.1.2] at h
    exact Bool.noConfusion h.2

/-- A claim that nothing bars is granted in the lowest FREE entry. -/
theorem decideClaim_of_grantable {lock : Lock} {s : State} {i : Nat} (unheld : conflictsWithHeld s lock = false)
    (unbarred : barredBy s.waiters lock = false) (lowest : lowestFreeLock s = some i) (limit : Nat) :
    decideClaim lock limit s = ⟨.granted (handleAt (allocateLock i lock (.reported (startedLease s)) s) i),
      allocateLock i lock (.reported (startedLease s)) s⟩ := by
  simp only [decideClaim, unheld, unbarred, Bool.or_self, Bool.false_eq_true, if_false, lowest]

/-- Settles O17: the parameters pass, nothing bars the claim, and it is granted. -/
theorem acquireGrantsAtOnce : Obligations.AcquireGrantsAtOnce := by
  intro p command s mode i h isMode ordered range ownLocks ownWaiters otherLocks otherWaiters free lower
  have lowest := lowestFreeLock_eq_some free lower
  have good := decideAcquire_of_good isMode ordered range (overlapsOwn_of_apart ownLocks ownWaiters)
  rw [decideClaim_of_grantable (conflictsWithHeld_of_shared otherLocks) (barredBy_of_shared otherWaiters) lowest] at good
  have generation : handleAt (allocateLock i ⟨p, extentOf command 1, mode⟩ (.reported (startedLease s)) s) i =
      ⟨i, ((lockAt s i).generation + 1) % 16⟩ := by
    rw [handleAt, lockAt_allocateLock (lowestFreeLock_some lowest).1, if_pos rfl]
    rfl
  rw [generation] at good
  obtain ⟨t, next, answered, result⟩ := answered_of_post (by rfl) (exec_acquire h good)
  exact ⟨t, next, answered, result⟩

theorem lowestFreeLock_eq_none {s : State} (full : ∀ e ∈ s.locks, e.state ≠ .free) : lowestFreeLock s = none :=
  List.findIdx?_eq_none_iff.mpr fun e mem => decide_eq_false (full e mem)

/-- A claim that is barred, or that finds no FREE entry, is refused with a limit of 0 and handed to the queue otherwise. -/
theorem decideClaim_of_barred {lock : Lock} {s : State} (barred : (conflictsWithHeld s lock || barredBy s.waiters lock) = true)
    (limit : Nat) : decideClaim lock limit s = if limit = 0 then refuse .conflict s else queueWaiter lock limit s := by
  simp only [decideClaim, barred, if_true]

theorem decideClaim_of_full {lock : Lock} {s : State} (unbarred : (conflictsWithHeld s lock || barredBy s.waiters lock) = false)
    (full : lowestFreeLock s = none) (limit : Nat) :
    decideClaim lock limit s = if limit = 0 then refuse .tableFull s else queueWaiter lock limit s := by
  simp only [decideClaim, unbarred, Bool.false_eq_true, if_false, full]

theorem decideClaim_queues {lock : Lock} {s : State}
    (h : (conflictsWithHeld s lock || barredBy s.waiters lock) = true ∨ ∀ e ∈ s.locks, e.state ≠ .free) {limit : Nat}
    (limited : limit ≠ 0) : decideClaim lock limit s = queueWaiter lock limit s := by
  cases barred : conflictsWithHeld s lock || barredBy s.waiters lock with
  | true => rw [decideClaim_of_barred barred, if_neg limited]
  | false =>
    have full := lowestFreeLock_eq_none (h.resolve_left (by rw [barred]; exact Bool.false_ne_true))
    rw [decideClaim_of_full barred full, if_neg limited]

theorem slotTaken_iff {l : List Waiter} {n : Nat} : l.any (fun w => decide (w.slot = n)) = true ↔ ∃ w ∈ l, w.slot = n := by
  simp only [List.any_eq_true, decide_eq_true_eq]

/-- The first number of a range that meets a test. -/
theorem find?_range_eq_some {test : Nat → Bool} {k n : Nat} (bound : k < n) (here : test k = true)
    (lower : ∀ j, j < k → test j = false) : (List.range n).find? test = some k := by
  rw [List.find?_range_eq_some]
  exact ⟨here, List.mem_range.mpr bound, fun j lt => by rw [lower j lt]; rfl⟩

theorem find?_range_eq_none {test : Nat → Bool} {n : Nat} (fails : ∀ j, j < n → test j = false) : (List.range n).find? test = none :=
  List.find?_eq_none.mpr fun j mem => by rw [fails j (List.mem_range.mp mem)]; exact Bool.false_ne_true

theorem lowestEmptySlot_eq_some {s : State} {slot : Nat} (bound : slot < 8) (empty : ∀ w ∈ s.waiters, w.slot ≠ slot)
    (lower : ∀ n, n < slot → ∃ w ∈ s.waiters, w.slot = n) : lowestEmptySlot s = some slot := by
  refine find?_range_eq_some bound ?_ fun n lt => ?_
  · rw [Bool.not_eq_true', Bool.eq_false_iff, ne_eq, slotTaken_iff]
    exact fun ⟨w, mem, same⟩ => empty w mem same
  · rw [slotTaken_iff.mpr (lower n lt)]
    rfl

theorem lowestEmptySlot_eq_none {s : State} (full : ∀ n, n < 8 → ∃ w ∈ s.waiters, w.slot = n) : lowestEmptySlot s = none :=
  find?_range_eq_none fun n lt => by rw [slotTaken_iff.mpr (full n lt)]; rfl

theorem lowByte_toNat (w : Word) : (lowByte w).toNat = w.toNat % 256 := by
  rw [lowByte, BitVec.extractLsb'_toNat, Nat.shiftRight_zero]

/-- Settles O18: the tests of an ACQUIRE in order, then the claim by what bars it and by its limit. -/
theorem acquireRefusedOrQueued : Obligations.AcquireRefusedOrQueued := by
  intro p command s h
  have refused : ∀ r, decideAcquire p command s = ⟨r, s⟩ → AnsweredOnly (.acquire p) s p command r := fun r decided =>
    answeredOnly_of_refuse (exec_acquire h decided)
  refine ⟨fun bad => refused _ (decideAcquire_of_refusal (if_pos bad)), fun mode isMode ordered => ⟨fun high => ?_, fun range =>
    ⟨fun overlap => ?_, fun apart => ?_⟩⟩⟩
  · refine refused _ (decideAcquire_of_refusal ?_)
    rw [isMode, acquireRefusal, if_neg (by simp; omega), if_pos (by unfold Config.lastBlock; omega)]
  · refine refused _ (decideAcquire_of_refusal ?_)
    rw [isMode, acquireRefusal, if_neg (by simp; omega), if_neg (by unfold Config.lastBlock; omega), if_pos overlap]
  · intro lock limit barred
    have good : decideAcquire p command s = decideClaim lock limit s := by
      rw [decideAcquire_of_good isMode ordered range apart, lowByte_toNat]
    refine ⟨fun isBarred noWait => refused _ ?_, fun unbarred full noWait => refused _ ?_, fun notNow limited => ?_⟩
    · rw [good, decideClaim_of_barred isBarred, if_pos noWait]
      rfl
    · rw [good, decideClaim_of_full unbarred (lowestFreeLock_eq_none full), if_pos noWait]
      rfl
    · rw [decideClaim_queues notNow limited] at good
      refine ⟨fun slot bound empty lower => ?_, fun full => refused _ ?_⟩
      · rw [queueWaiter, lowestEmptySlot_eq_some bound empty lower] at good
        exact answered_of_post (by rfl) (exec_acquire h good)
      · rw [good, queueWaiter, lowestEmptySlot_eq_none full]
        rfl

/-! ### WATCH and UNWATCH (R155, R156) -/

theorem lowestEmptyWatch_eq_some {l : List (Option Extent)} {n : Nat} (here : l[n]? = some none)
    (lower : ∀ m, m < n → l[m]? ≠ some none) : lowestEmptyWatch l = some n := by
  obtain ⟨lt, isNone⟩ := List.getElem?_eq_some_iff.mp here
  refine List.findIdx?_eq_some_iff_getElem.mpr ⟨lt, by rw [isNone]; rfl, fun m hm => ?_⟩
  have taken := lower m hm
  rw [List.getElem?_eq_getElem (Nat.lt_trans hm lt)] at taken
  simpa using taken

/-- Settles O29: the tests of each command in order. -/
theorem watchSlotsAreSetAndEmptied : Obligations.WatchSlotsAreSetAndEmptied := by
  intro p command s
  constructor
  · intro h x
    have refused : ∀ r, decideWatch p x s = ⟨r, s⟩ → AnsweredOnly (.watch p) s p command r := fun r decided =>
      answeredOnly_of_taken (decision := fun cmd => decideWatch p (extentOf cmd 1)) rfl h rfl decided
    refine ⟨fun bad => refused _ (if_pos bad), fun ordered high => refused _ ?_, fun ordered range full => refused _ ?_,
      fun n ordered range here lower => ?_⟩
    · rw [decideWatch, if_neg (by omega), if_pos (by unfold Config.lastBlock; omega)]
      rfl
    · have none : lowestEmptyWatch (s.watches.get p) = none :=
        List.findIdx?_eq_none_iff.mpr fun w mem => by simpa [Option.isSome_iff_ne_none] using full w mem
      rw [decideWatch, if_neg (by omega), if_neg (by unfold Config.lastBlock; omega), none]
      rfl
    · have decided : decideWatch p x s =
          ⟨.doneWatch n, s.withWatches (s.watches.set p ((s.watches.get p).set n (some x)))⟩ := by
        rw [decideWatch, if_neg (by omega), if_neg (by unfold Config.lastBlock; omega), lowestEmptyWatch_eq_some here lower]
      exact answered_of_post (by rfl)
        (exec_of_taken (c := .watch p) (decision := fun cmd => decideWatch p (extentOf cmd 1)) rfl h rfl decided)
  · intro h n
    have refused : ∀ r, decideUnwatch p n s = ⟨r, s⟩ → AnsweredOnly (.unwatch p) s p command r := fun r decided =>
      answeredOnly_of_taken (decision := fun cmd => decideUnwatch p (commandWord cmd 1).toNat) rfl h rfl decided
    refine ⟨fun high => refused _ (if_pos high), fun low empty => refused _ ?_, fun x low set => ?_⟩
    · rw [decideUnwatch, if_neg (by omega), List.getD_eq_getElem?_getD, empty]
      rfl
    · have decided : decideUnwatch p n s = ⟨.done, s.withWatches (s.watches.set p ((s.watches.get p).set n none))⟩ := by
        rw [decideUnwatch, if_neg (by omega), List.getD_eq_getElem?_getD, set]
        rfl
      exact answered_of_post (by rfl)
        (exec_of_taken (c := .unwatch p) (decision := fun cmd => decideUnwatch p (commandWord cmd 1).toNat) rfl h rfl decided)

/-! ### SET SETTING, READ SETTINGS and a code of no command (R167, R170, R175) -/

/-- Settles O33: the token, item, range and quota tests in order. -/
theorem settingIsSet : Obligations.SettingIsSet := by
  intro p command s h v
  have refused : ∀ r, decideSetSetting p (commandWord command 1) v s = ⟨r, s⟩ → AnsweredOnly (.setSetting p) s p command r :=
    fun r decided => answeredOnly_of_taken
      (decision := fun cmd => decideSetSetting p (commandWord cmd 1) (commandWord cmd 2).toNat) rfl h rfl decided
  refine ⟨fun other => refused _ (if_neg other), fun holds => ⟨fun unknown => refused _ ?_, fun item isItem =>
    ⟨fun outside => refused _ ?_, fun q isQuota _ above => refused _ ?_, fun inside quota => ?_⟩⟩⟩
  · rw [decideSetSetting, if_pos holds, unknown]
    rfl
  · simp only [decideSetSetting, if_pos holds, isItem, outside, Bool.false_and, Bool.false_eq_true, if_false]
    rfl
  · have fails : quotaTest s.settings item v = false := by
      subst isQuota
      exact decide_eq_false (Nat.not_le.mpr above)
    simp only [decideSetSetting, if_pos holds, isItem, fails, Bool.and_false, Bool.false_eq_true, if_false]
    rfl
  · have passes : quotaTest s.settings item v = true := by
      cases item with
      | quota q => exact decide_eq_true (quota q rfl)
      | _ => rfl
    have decided : decideSetSetting p (commandWord command 1) v s = ⟨.done, s.withSettings (s.settings.setItem item v)⟩ := by
      simp only [decideSetSetting, if_pos holds, isItem, inside, passes, Bool.and_self, if_true]
    exact answered_of_post (by rfl) (exec_of_taken (c := .setSetting p)
      (decision := fun cmd => decideSetSetting p (commandWord cmd 1) (commandWord cmd 2).toNat) rfl h rfl decided)

/-- Settles O34: neither command has a test. -/
theorem settingsAreReadAndUnknownRefused : Obligations.SettingsAreReadAndUnknownRefused := by
  intro p command s
  refine ⟨fun h => answeredOnly_of_taken rfl h rfl rfl, fun code unknown h => ?_⟩
  refine answeredOnly_of_taken rfl h ?_ rfl
  rw [Bool.not_eq_true', Bool.eq_false_iff, ne_eq, List.contains_iff_mem]
  exact unknown

/-! ### Block addresses (R1) -/

/-- Settles O49, by division with remainder. -/
theorem blockAddressesNameOnePlace : Obligations.BlockAddressesNameOnePlace := by
  unfold Obligations.BlockAddressesNameOnePlace cylinderOf headOf blockOf blockAddress Config.blocksPerCylinder Config.blocksPerTrack
  refine ⟨fun n h => by omega, fun c h b _ _ _ => by omega, fun x y hx hy => ⟨?_, fun n => ?_⟩⟩
  · simp only [Extent.overlaps, Extent.contains, Bool.and_eq_true, decide_eq_true_eq]
    constructor
    · rintro ⟨below, above⟩
      exact ⟨max x.first y.first, by omega⟩
    · rintro ⟨n, inX, inY⟩
      omega
  · simp only [Extent.overlaps, Extent.contains, Extent.intersection, Bool.and_eq_true, decide_eq_true_eq, max_le_iff, le_min_iff]
    constructor <;> rintro ⟨⟨_, _⟩, _, _⟩ <;> omega

end Sys2Proof.Machine
end

section
/-! The nine checks of a transfer, the lease tick's waits, the postings and notices, and the burst a grant begins (chapters 3, 4, 7, 8 and
9). -/

namespace Sys2Proof.Machine

open Sys2Proof.Safety

/-! ### The nine checks (R59) -/

theorem ite_some_eq_none {α : Type} (c : Prop) [Decidable c] (a : α) (o : Option α) :
    (if c then some a else o) = none ↔ ¬c ∧ o = none := by
  split <;> simp [*]

theorem tagTaken_iff {p : Port} {tag : BitVec 8} {l : List Request} :
    l.any (fun r => decide (r.port = p) && decide (r.tag = tag)) = true ↔ ∃ r ∈ l, r.port = p ∧ r.tag = tag := by
  simp only [List.any_eq_true, Bool.and_eq_true, decide_eq_true_eq]

theorem indexTaken_iff {l : List Request} {n : Nat} :
    l.any (fun r => decide (r.index = n)) = true ↔ ∃ r ∈ l, r.index = n := by
  simp only [List.any_eq_true, decide_eq_true_eq]

theorem indexFree_iff {l : List Request} {n : Nat} :
    (!l.any (fun r => decide (r.index = n))) = true ↔ ∀ r ∈ l, r.index ≠ n := by
  rw [Bool.not_eq_true', Bool.eq_false_iff, ne_eq, indexTaken_iff]
  simp only [not_exists, not_and, ne_eq]

theorem lowestFreeEntry_isNone_iff {s : State} :
    (lowestFreeEntry s).isNone = true ↔ ∀ i, i < 32 → ∃ r ∈ s.requests, r.index = i := by
  rw [Option.isNone_iff_eq_none, lowestFreeEntry, List.find?_eq_none]
  simp only [List.mem_range, indexFree_iff, not_forall, not_not, exists_prop]
  rfl

theorem lowestFreeEntry_some {s : State} {i : Nat} (h : lowestFreeEntry s = some i) :
    i < Config.requestEntries ∧ (∀ r ∈ s.requests, r.index ≠ i) ∧ ∀ j, j < i → ∃ r ∈ s.requests, r.index = j := by
  obtain ⟨free, bound, lower⟩ := List.find?_range_eq_some.mp h
  refine ⟨List.mem_range.mp bound, indexFree_iff.mp free, fun j lt => indexTaken_iff.mp ?_⟩
  simpa using lower j lt

theorem exists_lowestFreeEntry {s : State} (h : ∃ i, i < Config.requestEntries ∧ ∀ r ∈ s.requests, r.index ≠ i) :
    ∃ i, lowestFreeEntry s = some i := by
  obtain ⟨i, bound, free⟩ := h
  refine Option.isSome_iff_exists.mp (Option.isSome_iff_ne_none.mpr fun none => ?_)
  obtain ⟨r, mem, same⟩ := lowestFreeEntry_isNone_iff.mp (Option.isNone_iff_eq_none.mpr none) i bound
  exact free r mem same

theorem covered_iff {s : State} {p : Port} {x : Transfer} :
    covered s p x = true ↔ ∀ k, k < x.count → ∃ l ∈ heldLocks s, l.owner = p ∧ l.extent.first ≤ x.first + k ∧
      x.first + k ≤ l.extent.last ∧ (x.operation.changesMedium = true → l.mode = .exclusive) := by
  simp only [covered, List.all_eq_true, List.mem_range, List.any_eq_true, Lock.covers, Extent.contains, Bool.and_eq_true,
    Bool.or_eq_true, Bool.not_eq_true', decide_eq_true_eq]
  refine forall_congr' fun k => imp_congr_right fun _ => exists_congr fun l => and_congr_right fun _ => ?_
  cases x.operation.changesMedium <;> simp [and_assoc]

/-- The checks all pass exactly when the transfer is acceptable. -/
theorem transferRefusal_none_iff (p : Port) (x : Transfer) (s : State) : transferRefusal p x s = none ↔ Acceptable p x s := by
  simp only [transferRefusal, ite_some_eq_none, tagTaken_iff, lowestFreeEntry_isNone_iff, Bool.not_eq_true', Bool.not_eq_false,
    decide_eq_false_iff_not, not_not, Bool.and_eq_true, covered_iff, and_true]
  constructor
  · rintro ⟨parameters, range, host, tag, quota, entry, drive, covered, permission⟩
    refine ⟨parameters, range, host, fun r mem own same => tag ⟨r, mem, own, same⟩, quota, ?_, drive, covered, fun format => ?_⟩
    · by_contra none
      refine entry fun i bound => ?_
      by_contra free
      exact none ⟨i, bound, fun r mem same => free ⟨r, mem, same⟩⟩
    · by_contra refused
      exact permission ⟨format, by simpa using refused⟩
  · rintro ⟨parameters, range, host, tag, quota, ⟨i, bound, free⟩, drive, covered, permission⟩
    refine ⟨parameters, range, host, fun ⟨r, mem, own, same⟩ => tag r mem own same, quota, fun full => ?_, drive, covered, ?_⟩
    · obtain ⟨r, mem, same⟩ := full i bound
      exact free r mem same
    · rintro ⟨format, refused⟩
      rw [permission format] at refused
      cases refused

/-- The four transfer commands, each with its code and the transfer in the command. -/
def transferCommands (p : Port) (command : List Word) : List (Instr × Byte × Transfer) :=
  [(.read p, 0x01, readOf command), (.write p, 0x02, writeOf command), (.verify p, 0x03, verifyOf command),
    (.formatTrack p, 0x04, formatOf command)]

/-- A transfer command in hand is answered with what the Request Table decides of its transfer. -/
theorem exec_transfer {p : Port} {command : List Word} {c : Instr} {code : Byte} {x : Transfer}
    (mem : (c, code, x) ∈ transferCommands p command) {s : State} (h : InHand s p command code) {r : Response} {u : State}
    (decided : decideTransfer p x s = ⟨r, u⟩) : exec c s = .next (postResponse p (commandCode command) r u) := by
  simp only [transferCommands, List.mem_cons, Prod.mk.injEq, List.not_mem_nil, or_false] at mem
  rcases mem with ⟨rfl, rfl, rfl⟩ | ⟨rfl, rfl, rfl⟩ | ⟨rfl, rfl, rfl⟩ | ⟨rfl, rfl, rfl⟩
  · exact exec_of_taken (decision := fun cmd => decideTransfer p (readOf cmd)) rfl h rfl decided
  · exact exec_of_taken (decision := fun cmd => decideTransfer p (writeOf cmd)) rfl h rfl decided
  · exact exec_of_taken (decision := fun cmd => decideTransfer p (verifyOf cmd)) rfl h rfl decided
  · exact exec_of_taken (decision := fun cmd => decideTransfer p (formatOf cmd)) rfl h rfl decided

/-- Settles O15: the refusals are the branches of the checks in order. -/
theorem transferChecksInOrder : Obligations.TransferChecksInOrder := by
  intro p command s c code x mem h
  refine ⟨fun r refusal => ?_, transferRefusal_none_iff p x s, fun bad => ?_, fun good bad => ?_, fun good range bad => ?_,
    fun good range host => ⟨fun taken => ?_, fun fresh => ⟨fun full => ?_, fun room => ⟨fun table => ?_, fun i bound free => ?_⟩⟩⟩⟩
  · refine answeredOnly_of_refuse (exec_transfer mem h ?_)
    simp only [decideTransfer, refusal]
    rfl
  · simp only [transferRefusal, bad, Bool.not_false, if_true]
  · simp only [transferRefusal, good, bad, Bool.not_true, Bool.not_false, Bool.false_eq_true, if_false, if_true]
  · simp only [transferRefusal, good, range, bad, Bool.not_true, Bool.not_false, Bool.false_eq_true, if_false, if_true]
  · simp only [transferRefusal, good, range, host, Bool.not_true, Bool.false_eq_true, if_false, if_pos (tagTaken_iff.mpr taken)]
  all_goals
    have noTag : ¬ s.requests.any (fun r => decide (r.port = p) && decide (r.tag = x.tag)) = true := fun taken => by
      obtain ⟨r, mem, own, same⟩ := tagTaken_iff.mp taken
      exact fresh r mem own same
  · simp only [transferRefusal, good, range, host, Bool.not_true, Bool.false_eq_true, if_false, if_neg noTag,
      decide_eq_false (Nat.not_lt.mpr full), Bool.not_false, if_true]
  · simp only [transferRefusal, good, range, host, Bool.not_true, Bool.false_eq_true, if_false, if_neg noTag, decide_eq_true room,
      if_pos (lowestFreeEntry_isNone_iff.mpr table)]
  · have entry : ¬ (lowestFreeEntry s).isNone = true := fun none => by
      obtain ⟨r, mem, same⟩ := lowestFreeEntry_isNone_iff.mp none i bound
      exact free r mem same
    have passed : transferRefusal p x s =
        if s.sequencer.state = .offline then some .notReady
        else if !covered s p x then some .notLocked
        else if x.operation.isFormat && !s.settings.maintenance.get p then some .notPermitted
        else none := by
      simp only [transferRefusal, good, range, host, Bool.not_true, Bool.false_eq_true, if_false, if_neg noTag, decide_eq_true room,
        if_neg entry]
    rw [passed]
    refine ⟨fun offline => if_pos offline, fun online notCovered => ?_, fun online isCovered format forbidden => ?_⟩
    · rw [if_neg online, notCovered]
      rfl
    · rw [if_neg online, isCovered, format, forbidden]
      rfl

/-! ### The waits of a lease tick (R48, R49) -/

/-- The turn of another waiter, or of one that does not wait, leaves a waiter in the queue. -/
theorem foldl_grantWaiter_keeps (l : List Waiter) {s : State} {w : Waiter} (mem : w ∈ s.waiters)
    (apart : ∀ v ∈ l, v.slot = w.slot → v.isWaiting = false) : w ∈ (l.foldl grantWaiter s).waiters := by
  induction l generalizing s with
  | nil => exact mem
  | cons v l ih =>
    refine ih ?_ fun u mem => apart u (List.mem_cons_of_mem v mem)
    rcases grantWaiter_cases s v with e | ⟨i, able, _, e⟩ <;> rw [e]
    · exact mem
    · refine List.mem_filter.mpr ⟨mem, decide_eq_true fun same => ?_⟩
      have waits : v.isWaiting = true := by
        simp only [grantable, Bool.and_eq_true] at able
        exact able.1.1
      rw [apart v List.mem_cons_self same.symm] at waits
      cases waits

theorem slot_injective {l : List Waiter} (nodup : (l.map Waiter.slot).Nodup) {v w : Waiter} (hv : v ∈ l) (hw : w ∈ l)
    (same : v.slot = w.slot) : v = w := List.inj_on_of_nodup_map nodup hv hw same

/-- A denied waiter stays in its slot through a re-examination. -/
theorem mem_reexamine_of_denied {s : State} (distinct : SlotsDistinct s) {w : Waiter} (mem : w ∈ s.waiters)
    (denied : w.state = .denied) : w ∈ (reexamine s).waiters :=
  foldl_grantWaiter_keeps s.waiters mem fun v hv same => by
    rw [slot_injective distinct.1 hv mem same, Waiter.isWaiting, denied]

theorem tickWaiter_pending (s : State) (w : Waiter) (p : Port) (item : OwnerRef) (h : item ∈ s.pendingRecords.get p) :
    item ∈ (tickWaiter s w).pendingRecords.get p := by
  unfold tickWaiter
  split
  · split
    · show item ∈ ((s.pendingRecords.set w.lock.owner _)).get p
      rw [PortMap.get_set]
      split
      · next e => exact e ▸ List.mem_append_left _ h
      · exact h
    · exact h
  · exact h

theorem foldl_tickWaiter_pending (l : List Waiter) {s : State} {p : Port} {item : OwnerRef} (h : item ∈ s.pendingRecords.get p) :
    item ∈ (l.foldl tickWaiter s).pendingRecords.get p := by
  induction l generalizing s with
  | nil => exact h
  | cons w l ih => exact ih (tickWaiter_pending s w p item h)

theorem tickWaiter_denies {w : Waiter} (h : w.expiring = true) (s : State) : tickWaiter s w = denyWaiter w s := by
  unfold Waiter.expiring at h
  unfold tickWaiter
  split
  · next n state =>
    rw [state] at h
    exact if_pos (of_decide_eq_true h)
  · next notLimited =>
    split at h
    · next n state => exact absurd state (notLimited n)
    · cases h

theorem mem_joinPending (p : Port) (item : OwnerRef) (s : State) : item ∈ (joinPending p item s).pendingRecords.get p := by
  show item ∈ ((s.pendingRecords.set p _)).get p
  rw [PortMap.get_set_same]
  exact List.mem_append_right _ (List.mem_singleton_self item)

/-- A waiter at its last tick joins its port's pending-record list. -/
theorem tickWaiters_pending {w : Waiter} (h : w.expiring = true) (l : List Waiter) (s : State) (mem : w ∈ l) :
    OwnerRef.waiter w.slot ∈ (l.foldl tickWaiter s).pendingRecords.get w.lock.owner := by
  induction l generalizing s with
  | nil => cases mem
  | cons v l ih =>
    rcases List.mem_cons.mp mem with rfl | mem
    · rw [List.foldl_cons, tickWaiter_denies h]
      exact foldl_tickWaiter_pending l (mem_joinPending _ _ _)
    · exact ih _ mem

theorem tickWaiters_pending_of_none {s : State} (h : ∀ w ∈ s.waiters, w.expiring = false) :
    (tickWaiters s).pendingRecords = s.pendingRecords := by
  have turn : ∀ (u : State) (w : Waiter), w.expiring = false → (tickWaiter u w).pendingRecords = u.pendingRecords := fun u w goesOn => by
    unfold tickWaiter
    split
    · next n state =>
      split
      · next ends => simp [Waiter.expiring, state, ends] at goesOn
      · rfl
    · rfl
  unfold tickWaiters
  revert h
  generalize s.waiters = l
  intro h
  induction l generalizing s with
  | nil => rfl
  | cons w l ih => exact (ih fun v mem => h v (List.mem_cons_of_mem w mem)).trans (turn s w (h w List.mem_cons_self))

/-- With no lease at its last tick the tick of the leases touches the Lock Table alone. -/
theorem tickLeases_quiet {s : State} (h : s.locks.any LockEntry.expiring = false) :
    (tickLeases s).waiters = s.waiters ∧ (tickLeases s).pendingRecords = s.pendingRecords := by
  have turn : ∀ (u : State) (i : Nat), (lockAt u i).expiring = false →
      (tickLease u i).waiters = u.waiters ∧ (tickLease u i).pendingRecords = u.pendingRecords := fun u i goesOn => by
    unfold tickLease
    split
    · next lock lease state =>
      split
      · next ends => simp [LockEntry.expiring, state, ends] at goesOn
      · exact ⟨rfl, rfl⟩
    · exact ⟨rfl, rfl⟩
  have fold : ∀ (l : List Nat), l.Nodup → ∀ u : State, (∀ i ∈ l, (lockAt u i).expiring = false) →
      (l.foldl tickLease u).waiters = u.waiters ∧ (l.foldl tickLease u).pendingRecords = u.pendingRecords := fun l => by
    induction l with
    | nil => exact fun _ _ _ => ⟨rfl, rfl⟩
    | cons i l ih =>
      intro nodup u goesOn
      obtain ⟨notMem, nodup⟩ := List.nodup_cons.mp nodup
      obtain ⟨waiters, records⟩ := turn u i (goesOn i List.mem_cons_self)
      obtain ⟨waiters', records'⟩ := ih nodup (tickLease u i) fun j mem => by
        rw [lockAt_tickLease_ne fun e : j = i => notMem (e ▸ mem)]
        exact goesOn j (List.mem_cons_of_mem i mem)
      exact ⟨waiters'.trans waiters, records'.trans records⟩
  exact fold _ List.nodup_range s fun i _ => lockAt_not_expiring h i

theorem waiting_of_expiring {w : Waiter} (h : w.expiring = true) : ∃ n, w.state = .waiting (some n) ∧ n ≤ 1 := by
  unfold Waiter.expiring at h
  split at h
  · next n state => exact ⟨n, state, of_decide_eq_true h⟩
  · cases h

theorem tickedWaiter_of_expiring {w : Waiter} (h : w.expiring = true) : tickedWaiter w = { w with state := .denied } := by
  obtain ⟨n, state, last⟩ := waiting_of_expiring h
  rw [tickedWaiter, state, tickedWait, if_pos last]

/-- Settles O26: with no lease ended a tick is the count of the waits, and a re-examination when one is denied. -/
theorem leaseTickCountsTheWaits : Obligations.LeaseTickCountsTheWaits := by
  intro s distinct noneEnds
  have quiet : s.locks.any LockEntry.expiring = false := List.any_eq_false.mpr fun e mem => by rw [noneEnds e mem]; exact Bool.false_ne_true
  obtain ⟨waiters, records⟩ := tickLeases_quiet quiet
  have leases : afterLeases s = tickLeases s := if_neg (by rw [quiet]; exact Bool.false_ne_true)
  have next : exec .leaseTick s = .next (afterWaits (tickLeases s)) := by
    rw [exec_leaseTick_eq, if_neg (by rw [quiet]; exact Bool.false_ne_true), leases]
  have distinct' : SlotsDistinct (tickLeases s) := by
    unfold SlotsDistinct
    rw [waiters]
    exact distinct
  have sameWaiters : ∀ w, w ∈ (tickLeases s).waiters ↔ w ∈ s.waiters := fun w => by rw [waiters]
  have ticked : (tickWaiters (tickLeases s)).waiters = s.waiters.map tickedWaiter := by
    rw [tickWaiters_waiters distinct', waiters]
  refine ⟨_, next, fun w mem ends => ?_, ?_, fun noneDenied => ?_⟩
  · have denies : (tickLeases s).waiters.any Waiter.expiring = true := List.any_eq_true.mpr ⟨w, (sameWaiters w).mpr mem, ends⟩
    rw [afterWaits, if_pos denies]
    have stands : { w with state := .denied } ∈ (tickWaiters (tickLeases s)).waiters := by
      rw [ticked, ← tickedWaiter_of_expiring ends]
      exact List.mem_map_of_mem mem
    refine ⟨mem_reexamine_of_denied ?_ stands rfl, ?_⟩
    · exact slotsDistinct_of_sublist (tickWaiters_relaxed _).slots distinct'
    · obtain ⟨granted, appended, _⟩ := (reexamine_reexamined (tickWaiters (tickLeases s))).pendingRecords w.lock.owner
      rw [appended]
      exact List.mem_append_left _ (tickWaiters_pending ends _ _ ((sameWaiters w).mpr mem))
  · show List.Sublist _ (s.waiters.map tickedWaiter)
    rw [← ticked, afterWaits]
    split
    · exact reexamine_waiters_sublist _
    · exact List.Sublist.refl _
  · have none : ¬ (tickLeases s).waiters.any Waiter.expiring = true := fun any => by
      obtain ⟨w, mem, ends⟩ := List.any_eq_true.mp any
      rw [noneDenied w ((sameWaiters w).mp mem)] at ends
      cases ends
    rw [afterWaits, if_neg none]
    refine ⟨ticked, ?_, fun i => ?_⟩
    · rw [tickWaiters_pending_of_none fun w mem => noneDenied w ((sameWaiters w).mp mem), records]
    · rw [lockAt_congr (tickWaiters_locks _), (tickLeases_adjusted quiet).held]

/-! ### The postings (R145 to R147) -/

/-- A due posting whose record is formed. -/
theorem exec_posting_of_item {p : Port} {s t : State} {item : OwnerRef} {rest : List OwnerRef} {record : Record}
    (room : (s.completions.get p).length < 8) (head : s.pendingRecords.get p = item :: rest)
    (formed : postItem item (s.withPendingRecords (s.pendingRecords.set p rest)) = some (record, t)) :
    exec (.posting p) s = .next (t.withCompletions (t.completions.set p (t.completions.get p ++ [record]))) := by
  show Host.Outcome.next (postRecord p s) = _
  have room' : (s.completions.get p).length < Config.completionCapacity := room
  simp only [postRecord, if_pos room', head, formed]

theorem exec_posting_of_none {p : Port} {s : State} (h : 8 ≤ (s.completions.get p).length ∨ s.pendingRecords.get p = []) :
    exec (.posting p) s = .next s := by
  show Host.Outcome.next (postRecord p s) = _
  rcases h with full | empty
  · have full' : ¬ (s.completions.get p).length < Config.completionCapacity := Nat.not_lt.mpr full
    rw [postRecord, if_neg full']
  · simp only [postRecord, empty, ite_self]

/-- A re-examination after a posting, with the record already in the queue. -/
theorem exec_posting_reexamined {p : Port} {s u : State} {item : OwnerRef} {rest : List OwnerRef} {record : Record}
    (room : (s.completions.get p).length < 8) (head : s.pendingRecords.get p = item :: rest) (same : u.completions = s.completions)
    (formed : postItem item (s.withPendingRecords (s.pendingRecords.set p rest)) = some (record, reexamine u)) :
    exec (.posting p) s =
      .next (reexamine (u.withCompletions (s.completions.set p (s.completions.get p ++ [record])))) := by
  have completions : (reexamine u).completions = s.completions := (reexamine_locksAndWork u).completions.trans same
  rw [exec_posting_of_item room head formed, completions, reexamine_withCompletions]

/-- Settles O28, by the record each kind of item forms. -/
theorem postingReportsTheOldestItem : Obligations.PostingReportsTheOldestItem := by
  refine ⟨fun p s => ⟨fun i rest r status failing room head found held => ?_, fun i rest g lock room head at_i => ?_,
    exec_posting_of_none⟩, fun p s item rest room head => ⟨fun i g lock kind isLock at_i => ?_, fun slot w isWaiter found denied => ?_⟩⟩
  · have formed : postItem (.request i) (s.withPendingRecords (s.pendingRecords.set p rest)) =
        some (.transferDone r.tag status r.blocksDone r.retriesUsed failing,
          removeRequest i (s.withPendingRecords (s.pendingRecords.set p rest))) := by
      have found' : findRequest (s.withPendingRecords (s.pendingRecords.set p rest)) i = some r := found
      simp only [postItem, found', held]
    exact exec_posting_of_item room head formed
  · have at_i' : lockAt (s.withPendingRecords (s.pendingRecords.set p rest)) i = ⟨g, .held lock .unreported⟩ := at_i
    have formed : postItem (.lock i) (s.withPendingRecords (s.pendingRecords.set p rest)) = some (.lockGranted ⟨i, g⟩,
        setLockState i (.held lock (.reported (startedLease s))) (s.withPendingRecords (s.pendingRecords.set p rest))) := by
      simp only [postItem, handleAt, at_i']
      rfl
    rw [exec_posting_of_item room head formed]
    simp only [setLockState, at_i']
    rfl
  · subst isLock
    have at_i' : lockAt (s.withPendingRecords (s.pendingRecords.set p rest)) i = ⟨g, .ended lock kind⟩ := at_i
    have freed : setLockState i .free (s.withPendingRecords (s.pendingRecords.set p rest)) =
        (s.withPendingRecords (s.pendingRecords.set p rest)).withLocks (s.locks.set i ⟨g, .free⟩) := by
      simp only [setLockState, at_i']
      rfl
    refine ⟨_, exec_posting_reexamined room head (u := (s.withPendingRecords (s.pendingRecords.set p rest)).withLocks
      (s.locks.set i ⟨g, .free⟩)) rfl ?_, rfl⟩
    cases kind <;> simp only [postItem, handleAt, at_i', freed]
  · subst isWaiter
    have found' : findWaiter (s.withPendingRecords (s.pendingRecords.set p rest)) slot = some w := found
    refine ⟨_, exec_posting_reexamined room head (u := removeWaiter slot (s.withPendingRecords (s.pendingRecords.set p rest)))
      rfl ?_, rfl⟩
    simp only [postItem, found', denied]

/-! ### The notices (R158, R159) -/

/-- Notices offered to a queue: those that find room join it, and a dropped one sets NOTICE LOST. -/
theorem foldl_offerNotice_notices (p : Port) (l : List Notice) (s : State) (bounded : (s.notices.get p).queue.length ≤ 4) :
    (l.foldl (offerNotice p) s).notices.get p =
      ⟨((s.notices.get p).queue ++ l).take 4, (s.notices.get p).lost || decide (4 < (s.notices.get p).queue.length + l.length)⟩ := by
  induction l generalizing s with
  | nil =>
    have notAbove : ¬ 4 < (s.notices.get p).queue.length + ([] : List Notice).length := by simpa using bounded
    simp only [List.foldl_nil, List.append_nil, List.take_of_length_le bounded, decide_eq_false notAbove, Bool.or_false]
  | cons n l ih =>
    rw [List.foldl_cons]
    by_cases room : (s.notices.get p).queue.length < 4
    · have joined : (offerNotice p s n).notices.get p = ⟨(s.notices.get p).queue ++ [n], (s.notices.get p).lost⟩ := by
        have room' : (s.notices.get p).queue.length < Config.noticeCapacity := room
        simp only [offerNotice, if_pos room', State.withNotices_fields, PortMap.get_set_same]
      rw [ih _ (by rw [joined]; simp; omega), joined]
      simp only [List.append_assoc, List.singleton_append, List.length_append, List.length_cons, List.length_nil]
      rw [show (s.notices.get p).queue.length + (0 + 1) + l.length = (s.notices.get p).queue.length + (l.length + 1) by omega]
    · have dropped : (offerNotice p s n).notices.get p = ⟨(s.notices.get p).queue, true⟩ := by
        have full' : ¬ (s.notices.get p).queue.length < Config.noticeCapacity := room
        simp only [offerNotice, if_neg full', State.withNotices_fields, PortMap.get_set_same]
      have full : (s.notices.get p).queue.length = 4 := by omega
      rw [ih _ (by rw [dropped]; exact bounded), dropped]
      simp only [List.take_append_of_le_length (Nat.le_of_eq full.symm), List.length_cons, Bool.true_or]
      rw [decide_eq_true (by omega), Bool.or_true]

theorem offerNotice_other {p q : Port} (h : q ≠ p) (s : State) (n : Notice) : (offerNotice p s n).notices.get q = s.notices.get q := by
  unfold offerNotice
  dsimp only
  split <;> exact PortMap.get_set_ne _ _ _ _ h

theorem foldl_offerNotice_other {p q : Port} (h : q ≠ p) (l : List Notice) (s : State) :
    (l.foldl (offerNotice p) s).notices.get q = s.notices.get q := by
  induction l generalizing s with
  | nil => rfl
  | cons n l ih => exact (ih _).trans (offerNotice_other h s n)

theorem reportToPort_other {p q : Port} (h : q ≠ p) (report : WriteReport) (s : State) :
    (reportToPort report p s).notices.get q = s.notices.get q := by
  unfold reportToPort
  split
  · rfl
  · exact foldl_offerNotice_other h _ s

/-- What a report makes of the notice queue of a port. -/
def reportedQueue (report : WriteReport) (watches : List (Option Extent)) (n : NoticeQueue) : NoticeQueue :=
  ⟨(n.queue ++ matchingNotices report watches).take 4,
    n.lost || decide (4 < n.queue.length + (matchingNotices report watches).length)⟩

theorem reportToPort_own {p : Port} {report : WriteReport} (h : p ≠ report.writer) {s : State}
    (bounded : (s.notices.get p).queue.length ≤ 4) :
    (reportToPort report p s).notices.get p = reportedQueue report (s.watches.get p) (s.notices.get p) := by
  rw [reportToPort, if_neg h]
  exact foldl_offerNotice_notices p _ s bounded

theorem reportToPort_watches (report : WriteReport) (p : Port) (s : State) : (reportToPort report p s).watches = s.watches := by
  rw [reportToPort_eq]
  rfl

/-- The report has reached the four ports: each queue is as the port's own turn leaves it. -/
theorem reportToPorts_notices {report : WriteReport} {s : State} (bounded : ∀ p, (s.notices.get p).queue.length ≤ 4) (p : Port) :
    (reportToPort report .d (reportToPort report .c (reportToPort report .b (reportToPort report .a s)))).notices.get p =
      if p = report.writer then s.notices.get p else reportedQueue report (s.watches.get p) (s.notices.get p) := by
  have turn : ∀ (q : Port) (u : State), u.watches = s.watches → u.notices.get q = s.notices.get q →
      (reportToPort report q u).notices.get q =
        if q = report.writer then s.notices.get q else reportedQueue report (s.watches.get q) (s.notices.get q) :=
    fun q u watches same => by
      by_cases h : q = report.writer
      · rw [if_pos h, reportToPort, if_pos h, same]
      · rw [if_neg h, reportToPort_own h (by rw [same]; exact bounded q), watches, same]
  cases p with
  | a =>
    rw [reportToPort_other (by decide), reportToPort_other (by decide), reportToPort_other (by decide)]
    exact turn .a s rfl rfl
  | b =>
    rw [reportToPort_other (by decide), reportToPort_other (by decide)]
    exact turn .b _ (reportToPort_watches _ _ _) (reportToPort_other (by decide) _ _)
  | c =>
    rw [reportToPort_other (by decide)]
    refine turn .c _ ?_ ?_
    · rw [reportToPort_watches, reportToPort_watches]
    · rw [reportToPort_other (by decide), reportToPort_other (by decide)]
  | d =>
    refine turn .d _ ?_ ?_
    · rw [reportToPort_watches, reportToPort_watches, reportToPort_watches]
    · rw [reportToPort_other (by decide), reportToPort_other (by decide), reportToPort_other (by decide)]

/-- Settles O30, by the turn of each port. -/
theorem writeReportOffersNotices : Obligations.WriteReportOffersNotices := by
  refine ⟨fun s report rest bounded head => ?_, fun s none => ?_, fun report watches n => ?_⟩
  · have next : exec .writeReport s = .next (reportToPort report .d (reportToPort report .c (reportToPort report .b
        (reportToPort report .a (s.withWriteReports rest))))) := by
      show execWriteReport s = _
      simp only [execWriteReport, head]
    have notices := reportToPorts_notices (report := report) (s := s.withWriteReports rest) fun p => (bounded p).2
    refine ⟨_, next, reportToPorts_eq report _, ?_, fun p other => ?_⟩
    · rw [notices, if_pos rfl]
      rfl
    · rw [notices, if_neg other]
      rfl
  · show execWriteReport s = _
    simp only [execWriteReport, none]
  · simp only [matchingNotices, List.mem_filterMap, Prod.exists, List.mk_mem_zipIdx_iff_getElem?]
    constructor
    · rintro ⟨slot, k, at_k, formed⟩
      cases slot with
      | none => cases formed
      | some x =>
        simp only [Extent.overlaps, Bool.and_eq_true, decide_eq_true_eq] at formed
        split at formed
        · next overlap =>
          cases formed
          exact ⟨k, x, at_k, overlap.1, overlap.2, rfl⟩
        · cases formed
    · rintro ⟨k, x, at_k, below, above, rfl⟩
      refine ⟨some x, k, at_k, ?_⟩
      simp [Extent.overlaps, below, above, Extent.intersection]

/-! ### The bus grant (R134 to R136) -/

theorem busAddress_toNat (base : BitVec 8) {hostAddress k w : Nat} (h : hostAddress + 512 * k + 2 * w < 16777216) :
    (busAddress base hostAddress k w).toNat = base.toNat * 16777216 + (hostAddress + 512 * k + 2 * w) := by
  rw [busAddress, append_toNat, BitVec.toNat_ofNat, Nat.mod_eq_of_lt (by omega), show 2 ^ 24 = 16777216 from rfl]

/-- The engine that a grant sets moving (R134, R135). -/
def Engine.moved (e : Engine) (s : State) (p : Port) (b : Buffer) (r : Request) : Engine :=
  { e with
    state := .moving
    timer := none
    bufferBase := if b.wordsMoved = 0 then s.windowBase.get p else e.bufferBase
    burstAddress := busAddress (if b.wordsMoved = 0 then s.windowBase.get p else e.bufferBase) r.operation.address
      (b.block - r.first) b.wordsMoved
    burstRegister := match b.state with
      | .draining moved data => burstOf moved data
      | _ => e.burstRegister }

theorem exec_busGrant_of_requesting {p : Port} {s : State} {i : Nat} {b : Buffer} {r : Request}
    (requesting : (s.engines.get p).state = .requesting) (current : (s.engines.get p).current = some i) (at_i : bufferAt s i = some b)
    (entry : findRequest s b.entry = some r) :
    exec (.busGrant p) s = .next (s.withEngines (s.engines.set p ((s.engines.get p).moved s p b r))) := by
  show execBusGrant p s = _
  simp only [execBusGrant, if_pos requesting, current, Option.bind_some, at_i, entry]
  rfl

/-- Settles O52, by the engine a grant sets moving. -/
theorem busGrantMovesOneBurst : Obligations.BusGrantMovesOneBurst := by
  refine fun p s => ⟨fun i b r requesting current at_i entry => ?_, fun other => congrArg Host.Outcome.next (if_neg other)⟩
  refine ⟨_, _, exec_busGrant_of_requesting requesting current at_i entry, rfl, rfl, rfl, current, rfl, fun a transfers small => ?_,
    fun moved data draining => ?_⟩
  · have address : r.operation.address = a := by
      rcases transfers with h | h <;> rw [h] <;> rfl
    show (busAddress _ r.operation.address _ _).toNat = _
    rw [address, busAddress_toNat _ small]
    rfl
  · simp only [Engine.moved, draining]
    rfl

end Sys2Proof.Machine
end

section
/-! The rules of the Request Table: what each operation makes of the entries, how the sequencer's work on a request ends, what a
hand-over makes of the table, and what the end of an event leaves of it (chapters 4, 5 and 6). -/

namespace Sys2Proof.Machine

open Sys2Proof.Safety

/-! ### Looking up an entry -/

theorem findRequest_some {s : State} {i : Nat} {r : Request} (h : findRequest s i = some r) : r ∈ s.requests ∧ r.index = i :=
  ⟨List.mem_of_find?_eq_some h, of_decide_eq_true (List.find?_some (p := fun r : Request => decide (r.index = i)) h)⟩

theorem findRequest_congr {s t : State} (h : t.requests = s.requests) (i : Nat) : findRequest t i = findRequest s i := by
  rw [findRequest, findRequest, h]

theorem findRequest_none {s : State} {i : Nat} : findRequest s i = none ↔ ∀ r ∈ s.requests, r.index ≠ i := by
  simp only [findRequest, List.find?_eq_none, decide_eq_true_eq]

theorem findRequest_isSome {s : State} {r : Request} (mem : r ∈ s.requests) : ∃ q, findRequest s r.index = some q := by
  cases found : findRequest s r.index with
  | none => exact absurd rfl (findRequest_none.mp found r mem)
  | some q => exact ⟨q, rfl⟩

/-- A change of entries that keeps their indices changes what is found. -/
theorem findRequest_map {s t : State} {f : Request → Request} (h : t.requests = s.requests.map f) (index : ∀ r, (f r).index = r.index)
    (i : Nat) : findRequest t i = (findRequest s i).map f := by
  rw [findRequest, findRequest, h, List.find?_map]
  congr 2
  funext r
  simp only [Function.comp, index]

theorem findRequest_update {s : State} {i : Nat} {f : Request → Request} {r : Request} (index : ∀ r, (f r).index = r.index)
    (h : findRequest s i = some r) : findRequest (updateRequest i f s) i = some (f r) := by
  rw [findRequest_map (f := fun r => if r.index = i then f r else r) rfl (fun r => by split <;> simp [index]), h, Option.map_some,
    if_pos (findRequest_some h).2]

theorem entry_unique {s : State} (distinct : EntriesDistinct s) {r q : Request} (hr : r ∈ s.requests) (hq : q ∈ s.requests)
    (same : r.index = q.index) : r = q := List.inj_on_of_nodup_map distinct.1 hr hq same

theorem findRequest_of_mem {s : State} (distinct : EntriesDistinct s) {r : Request} (mem : r ∈ s.requests) :
    findRequest s r.index = some r := by
  obtain ⟨q, found⟩ := findRequest_isSome mem
  obtain ⟨hq, same⟩ := findRequest_some found
  rw [found, entry_unique distinct hq mem same]

theorem entriesDistinct_of_sublist {s t : State} (h : (t.requests.map Request.index).Sublist (s.requests.map Request.index))
    (distinct : EntriesDistinct s) : EntriesDistinct t := by
  refine ⟨h.nodup distinct.1, fun r mem => ?_⟩
  obtain ⟨q, hq, same⟩ := List.mem_map.mp (h.subset (List.mem_map_of_mem mem))
  rw [← same]
  exact distinct.2 q hq

theorem entriesDistinct_of_kept {s t : State} (h : Kept s t) (distinct : EntriesDistinct s) : EntriesDistinct t :=
  entriesDistinct_of_sublist h.entries distinct

/-! ### An entry loosened: a dependency of it has left the medium (R62) -/

/-- An entry with dependencies gone, and READY if it was WAITING for the last of them. -/
structure Loosened (r q : Request) : Prop where
  same : q = { r with dependencies := q.dependencies, state := q.state }
  state : q.state = r.state ∨ (r.state = .waiting ∧ q.state = .ready)

theorem loosened_refl (r : Request) : Loosened r r := ⟨rfl, .inl rfl⟩

theorem loosened_trans {r q u : Request} (h : Loosened r q) (k : Loosened q u) : Loosened r u := by
  refine ⟨k.same.trans (by rw [h.same]), ?_⟩
  rcases k.state with same | ⟨waiting, ready⟩
  · rw [same]
    exact h.state
  · rcases h.state with same | ⟨_, ready'⟩
    · exact .inr ⟨same ▸ waiting, ready⟩
    · rw [ready'] at waiting
      cases waiting

theorem loosened_index {r q : Request} (h : Loosened r q) : q.index = r.index := by rw [h.same]

theorem dropDependency_loosened (i : Nat) (r : Request) : Loosened r (r.dropDependency i) := by
  unfold Request.dropDependency
  split
  · dsimp only
    split
    · next h => exact ⟨rfl, .inr ⟨h.1, rfl⟩⟩
    · exact ⟨rfl, .inl rfl⟩
  · exact loosened_refl r

theorem loosened_state {r q : Request} (h : Loosened r q) (notWaiting : r.state ≠ .waiting) : q.state = r.state :=
  h.state.resolve_right fun k => notWaiting k.1

theorem dropDependency_state {i : Nat} {r : Request} (h : r.state ≠ .waiting) : (r.dropDependency i).state = r.state :=
  loosened_state (dropDependency_loosened i r) h

/-! ### Entry into HELD and FREE (R62, R67, R68) -/

/-- The sequencer, the lines of the drive, the sweep and the write reports are the same. -/
structure DriveSame (s t : State) : Prop where
  sequencer : t.sequencer = s.sequencer
  drive : t.drive = s.drive
  sweep : t.sweep = s.sweep
  writeReports : t.writeReports = s.writeReports

theorem driveSame_refl (s : State) : DriveSame s s := ⟨rfl, rfl, rfl, rfl⟩

theorem driveSame_trans {s t u : State} (h : DriveSame s t) (k : DriveSame t u) : DriveSame s u :=
  ⟨k.sequencer.trans h.sequencer, k.drive.trans h.drive, k.sweep.trans h.sweep, k.writeReports.trans h.writeReports⟩

theorem updateRequest_driveSame (i : Nat) (f : Request → Request) (s : State) : DriveSame s (updateRequest i f s) := ⟨rfl, rfl, rfl, rfl⟩

theorem leaveMedium_driveSame (i : Nat) (s : State) : DriveSame s (leaveMedium i s) := ⟨rfl, rfl, rfl, rfl⟩

theorem freeBuffers_driveSame (test : Buffer → Bool) (s : State) : DriveSame s (freeBuffers test s) := ⟨rfl, rfl, rfl, rfl⟩

theorem forgetEntry_driveSame (i : Nat) (s : State) : DriveSame s (forgetEntry i s) := ⟨rfl, rfl, rfl, rfl⟩

theorem joinPending_driveSame (p : Port) (item : OwnerRef) (s : State) : DriveSame s (joinPending p item s) := ⟨rfl, rfl, rfl, rfl⟩

/-- What the entry of request `i` into HELD makes of an entry. -/
def heldEntry (i : Nat) (status : Status) (failing : Option Nat) (r : Request) : Request :=
  (if r.index = i then { r with state := .held status failing, dependencies := [] } else r).dropDependency i

theorem heldEntry_index (i : Nat) (status : Status) (failing : Option Nat) (r : Request) :
    (heldEntry i status failing r).index = r.index := by
  rw [heldEntry, dropDependency_index]
  split <;> rfl

theorem heldEntry_own {i : Nat} {r : Request} (h : r.index = i) (status : Status) (failing : Option Nat) :
    heldEntry i status failing r = { r with state := .held status failing, dependencies := [] } := by
  rw [heldEntry, if_pos h]
  rfl

theorem heldEntry_other {i : Nat} {r : Request} (h : r.index ≠ i) (status : Status) (failing : Option Nat) :
    Loosened r (heldEntry i status failing r) := by
  rw [heldEntry, if_neg h]
  exact dropDependency_loosened i r

theorem enterHeld_requests {s : State} {i : Nat} {r : Request} (h : findRequest s i = some r) (status : Status) (failing : Option Nat) :
    (enterHeld i status failing s).requests = s.requests.map (heldEntry i status failing) := by
  unfold enterHeld
  simp only [h]
  show (s.requests.map _).map _ = _
  rw [List.map_map]
  rfl

theorem enterHeld_of_none {s : State} {i : Nat} (h : findRequest s i = none) (status : Status) (failing : Option Nat) :
    enterHeld i status failing s = s := by
  simp only [enterHeld, h]

/-- The entry of a request into HELD leaves the sequencer, the drive, the sweep and the reports. -/
theorem enterHeld_frame (i : Nat) (status : Status) (failing : Option Nat) (s : State) : DriveSame s (enterHeld i status failing s) := by
  unfold enterHeld
  split
  · exact driveSame_refl s
  · exact driveSame_trans (updateRequest_driveSame i _ s) (driveSame_trans (leaveMedium_driveSame i _)
      (driveSame_trans (freeBuffers_driveSame _ _) (driveSame_trans (forgetEntry_driveSame i _) (joinPending_driveSame _ _ _))))

theorem freeRequest_frame (i : Nat) (s : State) : DriveSame s (freeRequest i s) :=
  driveSame_trans (t := removeRequest i s) ⟨rfl, rfl, rfl, rfl⟩ (driveSame_trans (leaveMedium_driveSame i _)
    (driveSame_trans (freeBuffers_driveSame _ _) (forgetEntry_driveSame i _)))

theorem freeRequest_requests (i : Nat) (s : State) :
    (freeRequest i s).requests = (s.requests.filter fun r => decide (r.index ≠ i)).map (Request.dropDependency i) := rfl

theorem mem_freeRequest {i : Nat} {s : State} {q : Request} (h : q ∈ (freeRequest i s).requests) :
    q.index ≠ i ∧ ∃ r ∈ s.requests, Loosened r q := by
  rw [freeRequest_requests] at h
  obtain ⟨r, mem, rfl⟩ := List.mem_map.mp h
  obtain ⟨mem, apart⟩ := List.mem_filter.mp mem
  exact ⟨by rw [dropDependency_index]; exact of_decide_eq_true apart, r, mem, dropDependency_loosened i r⟩

/-- A request that has entered HELD stands so and waits in its port's list. -/
theorem enterHeld_heldWith {s : State} {i : Nat} {r : Request} (h : findRequest s i = some r) (status : Status) (failing : Option Nat) :
    HeldWith (enterHeld i status failing s) r status failing 0 := by
  obtain ⟨mem, isIndex⟩ := findRequest_some h
  constructor
  · refine ⟨heldEntry i status failing r, ?_, ?_⟩
    · rw [enterHeld_requests h]
      exact List.mem_map_of_mem mem
    · rw [heldEntry_own isIndex]
      exact ⟨rfl, rfl, rfl, rfl, rfl, rfl, (Nat.max_zero _).symm⟩
  · unfold enterHeld
    simp only [h]
    rw [isIndex]
    exact mem_joinPending _ _ _

/-! ### Entries past the scheduler's reach -/

/-- No entry of index `i` is WAITING or READY, so that no choice of the scheduler reaches it. -/
def Rests (i : Nat) (s : State) : Prop := ∀ q ∈ s.requests, q.index = i → q.state ≠ .waiting ∧ q.state ≠ .ready

theorem rests_of_none {i : Nat} {s : State} (h : ∀ q ∈ s.requests, q.index ≠ i) : Rests i s := fun q mem same => absurd same (h q mem)

theorem rests_congr {i : Nat} {s t : State} (h : t.requests = s.requests) (k : Rests i s) : Rests i t := by
  unfold Rests
  rw [h]
  exact k

theorem enterHeld_rests {s : State} {i : Nat} {r : Request} (h : findRequest s i = some r) (status : Status) (failing : Option Nat) :
    Rests i (enterHeld i status failing s) := fun q mem same => by
  rw [enterHeld_requests h] at mem
  obtain ⟨u, _, rfl⟩ := List.mem_map.mp mem
  rw [heldEntry_index] at same
  rw [heldEntry_own same]
  exact ⟨nofun, nofun⟩

/-! ### The end of the sequencer's work on a request (R65, R66, R72, R76) -/

/-- The status an end of the sequencer's work gives. -/
def MediumEnd.status : MediumEnd → Status
  | .failed status _ => status
  | _ => .ok

/-- The failing block an end of the sequencer's work names. -/
def MediumEnd.failing : MediumEnd → Option Nat
  | .failed _ failing => failing
  | _ => none

theorem makeWriteReport_requests (r : Request) (v : Service) (s : State) : (makeWriteReport r v s).requests = s.requests := by
  unfold makeWriteReport
  split
  · rfl
  · split <;> rfl

theorem makeWriteReport_pendingRecords (r : Request) (v : Service) (s : State) :
    (makeWriteReport r v s).pendingRecords = s.pendingRecords := by
  unfold makeWriteReport
  split
  · rfl
  · split <;> rfl

theorem makeWriteReport_frame (r : Request) (v : Service) (s : State) :
    (makeWriteReport r v s).sequencer = s.sequencer ∧ (makeWriteReport r v s).drive = s.drive := by
  unfold makeWriteReport
  split
  · exact ⟨rfl, rfl⟩
  · split <;> exact ⟨rfl, rfl⟩

theorem heldWith_congr {s t : State} {r : Request} {status : Status} {failing : Option Nat} {n : Nat} (requests : t.requests = s.requests)
    (records : t.pendingRecords = s.pendingRecords) (h : HeldWith s r status failing n) : HeldWith t r status failing n := by
  unfold HeldWith
  rw [requests, records]
  exact h

theorem report_heldWith {s : State} {i : Nat} {r : Request} (h : findRequest s i = some r) (q : Request) (v : Service) (status : Status)
    (failing : Option Nat) : HeldWith (makeWriteReport q v (enterHeld i status failing s)) r status failing 0 :=
  heldWith_congr (makeWriteReport_requests _ _ _) (makeWriteReport_pendingRecords _ _ _) (enterHeld_heldWith h status failing)

theorem report_rests {s : State} {i : Nat} {r : Request} (h : findRequest s i = some r) (q : Request) (v : Service) (status : Status)
    (failing : Option Nat) : Rests i (makeWriteReport q v (enterHeld i status failing s)) :=
  rests_congr (makeWriteReport_requests _ _ _) (enterHeld_rests h status failing)

/-- A READ whose good blocks are not all delivered drains. -/
theorem draining_requests (i : Nat) (status : Status) (failing : Option Nat) (s : State) :
    (leaveMedium i (updateRequest i (fun q => { q with state := .draining status failing }) s)).requests =
      s.requests.map fun r => (if r.index = i then { r with state := .draining status failing } else r).dropDependency i := by
  show (s.requests.map _).map _ = _
  rw [List.map_map]
  rfl

theorem dropDependency_same (i : Nat) {r : Request} (h : r.state ≠ .waiting) :
    (r.dropDependency i) = { r with dependencies := (r.dropDependency i).dependencies } := by
  have loosened := dropDependency_loosened i r
  have state := loosened_state loosened h
  exact loosened.same.trans (by rw [state])

theorem draining_rests (i : Nat) (status : Status) (failing : Option Nat) (s : State) :
    Rests i (leaveMedium i (updateRequest i (fun q => { q with state := .draining status failing }) s)) := fun q mem same => by
  rw [draining_requests] at mem
  obtain ⟨u, _, rfl⟩ := List.mem_map.mp mem
  have isIndex : u.index = i := by
    rw [dropDependency_index] at same
    split at same <;> exact same
  rw [if_pos isIndex, dropDependency_state (by exact nofun)]
  exact ⟨nofun, nofun⟩

theorem delivers_iff (operation : Operation) : delivers operation = true ↔ ∃ a, operation = .read a := by
  cases operation <;> simp [delivers]

/-- What the table makes of an ACTIVE request with no stop pending, at its end. -/
theorem endActive_cases (r : Request) (v : Service) (status : Status) (failing : Option Nat) (s : State) :
    (delivers r.operation = true ∧ r.blocksDone < r.mediumCount ∧ endActive r v status failing s =
      leaveMedium r.index (updateRequest r.index (fun q => { q with state := .draining status failing }) s)) ∨
    (¬(delivers r.operation = true ∧ r.blocksDone < r.mediumCount) ∧ endActive r v status failing s =
      makeWriteReport r v (enterHeld r.index status failing s)) := by
  unfold endActive
  split
  · next operation =>
    split
    · next undelivered => exact .inl ⟨by rw [operation]; rfl, undelivered, rfl⟩
    · next delivered =>
      refine .inr ⟨fun h => delivered h.2, ?_⟩
      simp only [makeWriteReport, operation, Operation.writeKind]
  · next other =>
    refine .inr ⟨fun ⟨reads, _⟩ => ?_, rfl⟩
    obtain ⟨a, operation⟩ := (delivers_iff _).mp reads
    exact other a operation

/-- The end can be told to the table: it is no stop that nobody asked for. -/
def MediumEnd.tellable (e : MediumEnd) (r : Request) : Prop := r.state = .active none → e ≠ .stopped

theorem applyEnd_endedAs {s : State} {r : Request} {e : MediumEnd} (found : findRequest s r.index = some r) (isServed : served r = true)
    (tellable : e.tellable r) (v : Service) :
    EndedAs (applyEnd r v e s) r e.status e.failing 0 ∧ Rests r.index (applyEnd r v e s) := by
  have ended : ∀ status failing, r.state = .active none →
      EndedAs (endActive r v status failing s) r status failing 0 ∧ Rests r.index (endActive r v status failing s) :=
    fun status failing state => by
      unfold EndedAs
      simp only [state]
      rcases endActive_cases r v status failing s with ⟨reads, undelivered, result⟩ | ⟨done, result⟩ <;> rw [result]
      · refine ⟨?_, draining_rests _ _ _ _⟩
        rw [if_pos ⟨reads, undelivered⟩]
        refine ⟨_, draining_requests r.index status failing s ▸ List.mem_map_of_mem (findRequest_some found).1, ?_⟩
        rw [if_pos rfl, dropDependency_same _ (by exact nofun)]
        exact ⟨rfl, rfl, rfl, rfl, rfl, rfl, (Nat.max_zero _).symm⟩
      · rw [if_neg done]
        exact ⟨report_heldWith found _ _ _ _, report_rests found _ _ _ _⟩
  unfold applyEnd
  split
  · next state =>
    have gone : ∀ q ∈ (freeRequest r.index s).requests, q.index ≠ r.index := fun q mem => (mem_freeRequest mem).1
    refine ⟨?_, rests_of_none gone⟩
    unfold EndedAs
    simp only [state]
    exact gone
  · next stop state =>
    refine ⟨?_, report_rests found _ _ _ _⟩
    unfold EndedAs
    simp only [state]
    exact report_heldWith found _ _ _ _
  · next state =>
    cases e with
    | finished => exact ended .ok none state
    | failed status failing => exact ended status failing state
    | stopped => exact absurd rfl (tellable state)
  · next notOrphaned notStopped notActive =>
    simp only [served, Request.isActive, Bool.or_eq_true, decide_eq_true_eq] at isServed
    rcases isServed with active | orphaned
    · split at active
      · next stop state =>
        cases stop with
        | none => exact absurd state notActive
        | some reason => exact absurd state (notStopped reason)
      · cases active
    · exact absurd orphaned notOrphaned

/-- An entry with the retries of a report counted. -/
def raisedEntry (n : Nat) (r : Request) : Request := { r with retriesUsed := max r.retriesUsed n }

/-- The retries of a report are counted in the entry before its end is made of it. -/
theorem endedAs_of_raised {t : State} {r : Request} {status : Status} {failing : Option Nat} {n : Nat}
    (h : EndedAs t (raisedEntry n r) status failing 0) : EndedAs t r status failing n := by
  have held : ∀ {status failing}, HeldWith t (raisedEntry n r) status failing 0 →
      HeldWith t r status failing n := fun ⟨⟨q, mem, index, port, tag, state, done, count, retries⟩, waits⟩ =>
    ⟨⟨q, mem, index, port, tag, state, done, count, retries.trans (Nat.max_zero _)⟩, waits⟩
  unfold EndedAs at h ⊢
  have state' : (raisedEntry n r).state = r.state := rfl
  rw [state'] at h
  cases state : r.state with
  | orphaned =>
    simp only [state] at h ⊢
    exact h
  | active stop =>
    cases stop with
    | some reason =>
      simp only [state] at h ⊢
      exact held h
    | none =>
      simp only [state] at h ⊢
      split
      · next undelivered =>
        have undelivered' : delivers (raisedEntry n r).operation = true ∧
            (raisedEntry n r).blocksDone < (raisedEntry n r).mediumCount := undelivered
        rw [if_pos undelivered'] at h
        obtain ⟨q, mem, index, port, tag, state, done, count, retries⟩ := h
        exact ⟨q, mem, index, port, tag, state, done, count, retries.trans (Nat.max_zero _)⟩
      · next done =>
        have done' : ¬(delivers (raisedEntry n r).operation = true ∧
            (raisedEntry n r).blocksDone < (raisedEntry n r).mediumCount) := done
        rw [if_neg done'] at h
        exact held h
  | _ =>
    simp only [state] at h

theorem findRequest_raised {s : State} {v : Service} {r : Request} (found : findRequest s v.entry = some r) {i : Nat} (isEntry : i = v.entry)
    (n : Nat) (next : SequencerState) : findRequest (raiseRetries v.entry n (closeService v next s)) i = some (raisedEntry n r) := by
  subst isEntry
  exact findRequest_update (s := closeService v next s) (f := raisedEntry n) (fun _ => rfl) found

theorem endOnMedium_eq {s : State} {v : Service} {r : Request} (service : s.sequencer.service = some v)
    (found : findRequest s v.entry = some r) (e : MediumEnd) (next : SequencerState) :
    endOnMedium e next s = applyEnd (raisedEntry (e.retries v) r) v e
      (raiseRetries v.entry (e.retries v) (closeService v next s)) := by
  simp only [endOnMedium, service, findRequest_raised found rfl]

/-- The end of the sequencer's work on the request it serves, as the Request Table shows it. -/
theorem endOnMedium_endedAs {s : State} {v : Service} {r : Request} (service : s.sequencer.service = some v)
    (found : findRequest s v.entry = some r) (isServed : served r = true) {e : MediumEnd} (tellable : e.tellable r)
    (next : SequencerState) :
    EndedAs (endOnMedium e next s) r e.status e.failing (e.retries v) ∧ Rests r.index (endOnMedium e next s) := by
  have h := applyEnd_endedAs (r := raisedEntry (e.retries v) r)
    (findRequest_raised found (findRequest_some found).2 (e.retries v) next) isServed tellable v
  rw [endOnMedium_eq service found]
  exact ⟨endedAs_of_raised h.1, h.2⟩

theorem applyEnd_frame (r : Request) (v : Service) (e : MediumEnd) (s : State) :
    (applyEnd r v e s).sequencer = s.sequencer ∧ (applyEnd r v e s).drive = s.drive := by
  have held : ∀ status failing, (makeWriteReport r v (enterHeld r.index status failing s)).sequencer = s.sequencer ∧
      (makeWriteReport r v (enterHeld r.index status failing s)).drive = s.drive := fun status failing => by
    obtain ⟨sequencer, drive⟩ := makeWriteReport_frame r v (enterHeld r.index status failing s)
    have frame := enterHeld_frame r.index status failing s
    exact ⟨sequencer.trans frame.sequencer, drive.trans frame.drive⟩
  have active : ∀ status failing, (endActive r v status failing s).sequencer = s.sequencer ∧
      (endActive r v status failing s).drive = s.drive := fun status failing => by
    rcases endActive_cases r v status failing s with ⟨_, _, result⟩ | ⟨_, result⟩ <;> rw [result]
    · exact ⟨rfl, rfl⟩
    · exact held status failing
  unfold applyEnd
  split
  · exact ⟨(freeRequest_frame _ s).sequencer, (freeRequest_frame _ s).drive⟩
  · exact held _ _
  · split
    · exact active _ _
    · exact active _ _
    · exact ⟨rfl, rfl⟩
  · exact ⟨rfl, rfl⟩

/-- The sequencer after the end of its work on a request. -/
def closedSequencer (next : SequencerState) (q : Sequencer) : Sequencer :=
  { q with state := next, service := none, positioningTimer := none, settleTimer := none }

theorem endOnMedium_frame {s : State} {v : Service} (service : s.sequencer.service = some v) (e : MediumEnd) (next : SequencerState) :
    (endOnMedium e next s).sequencer = closedSequencer next s.sequencer ∧
      (endOnMedium e next s).drive = { s.drive with writeGate := false, writeData := [] } := by
  unfold endOnMedium
  simp only [service]
  split
  · exact ⟨rfl, rfl⟩
  · next r _ =>
    obtain ⟨sequencer, drive⟩ := applyEnd_frame r v e (raiseRetries v.entry (e.retries v) (closeService v next s))
    exact ⟨sequencer, drive⟩

/-! ### The write report of an end (R114, R157) -/

theorem makeWriteReport_reports (r : Request) (v : Service) {s t : State} (h : s.writeReports = t.writeReports) :
    (makeWriteReport r v s).writeReports = (makeWriteReport r v t).writeReports := by
  unfold makeWriteReport
  split
  · exact h
  · split
    · exact h
    · simp only [State.withWriteReports_fields, h]

theorem makeWriteReport_of_reads {r : Request} (h : r.operation.writeKind = none) (v : Service) (s : State) :
    makeWriteReport r v s = s := by
  simp only [makeWriteReport, h]

/-- The end of a request makes its write report, but of an orphan. -/
theorem applyEnd_reports {r : Request} {e : MediumEnd} (isServed : served r = true) (tellable : e.tellable r) (v : Service) (s : State) :
    (applyEnd r v e s).writeReports = if r.state = .orphaned then s.writeReports else (makeWriteReport r v s).writeReports := by
  have held : ∀ status failing, (makeWriteReport r v (enterHeld r.index status failing s)).writeReports =
      (makeWriteReport r v s).writeReports := fun status failing =>
    makeWriteReport_reports r v (enterHeld_frame r.index status failing s).writeReports
  have active : ∀ status failing, (endActive r v status failing s).writeReports = (makeWriteReport r v s).writeReports :=
    fun status failing => by
      rcases endActive_cases r v status failing s with ⟨reads, _, result⟩ | ⟨_, result⟩ <;> rw [result]
      · obtain ⟨a, operation⟩ := (delivers_iff _).mp reads
        rw [makeWriteReport_of_reads (by rw [operation]; rfl)]
        rfl
      · exact held status failing
  unfold applyEnd
  split
  · next state => exact (if_pos state).symm
  · next stop state => rw [if_neg (by rw [state]; exact nofun), held]
  · next state =>
    rw [if_neg (by rw [state]; exact nofun)]
    cases e with
    | finished => exact active _ _
    | failed status failing => exact active _ _
    | stopped => exact absurd rfl (tellable state)
  · next notOrphaned notStopped notActive =>
    simp only [served, Request.isActive, Bool.or_eq_true, decide_eq_true_eq] at isServed
    rcases isServed with active | orphaned
    · split at active
      · next stop state =>
        cases stop with
        | none => exact absurd state notActive
        | some reason => exact absurd state (notStopped reason)
      · cases active
    · exact absurd orphaned notOrphaned

theorem endOnMedium_reports {s : State} {v : Service} {r : Request} (service : s.sequencer.service = some v)
    (found : findRequest s v.entry = some r) (isServed : served r = true) {e : MediumEnd} (tellable : e.tellable r)
    (next : SequencerState) : (endOnMedium e next s).writeReports =
      if r.state = .orphaned then s.writeReports else (makeWriteReport r v s).writeReports := by
  rw [endOnMedium_eq service found, applyEnd_reports (r := raisedEntry (e.retries v) r) isServed tellable]
  have same : ∀ u : State, u.writeReports = s.writeReports →
      (makeWriteReport (raisedEntry (e.retries v) r) v u).writeReports = (makeWriteReport r v s).writeReports := fun u h => by
    rw [← makeWriteReport_reports r v h]
    rfl
  rw [same (raiseRetries v.entry (e.retries v) (closeService v next s)) rfl]
  rfl

/-! ### The scheduler's reach -/

/-- Whether a request awaits its turn on the medium: WAITING or READY. -/
def Request.awaits (r : Request) : Bool :=
  match r.state with
  | .waiting => true
  | .ready => true
  | _ => false

theorem awaits_iff (r : Request) : r.awaits = true ↔ r.state = .waiting ∨ r.state = .ready := by
  unfold Request.awaits
  split
  · simp [*]
  · simp [*]
  · exact iff_of_false nofun (not_or.mpr ⟨‹_›, ‹_›⟩)

theorem awaits_congr {r q : Request} (h : q.state = r.state) : q.awaits = r.awaits := by
  rw [Request.awaits, Request.awaits, h]

/-- An entry with the same identity, parameters and progress, which does not await its turn unless it did. -/
structure SameEntry (r q : Request) : Prop where
  index : q.index = r.index
  port : q.port = r.port
  tag : q.tag = r.tag
  operation : q.operation = r.operation
  first : q.first = r.first
  count : q.count = r.count
  mediumCount : q.mediumCount = r.mediumCount
  blocksDone : q.blocksDone = r.blocksDone
  retriesUsed : q.retriesUsed = r.retriesUsed
  awaits : q.awaits = true → r.awaits = true

theorem sameEntry_refl (r : Request) : SameEntry r r := ⟨rfl, rfl, rfl, rfl, rfl, rfl, rfl, rfl, rfl, id⟩

theorem sameEntry_trans {r q u : Request} (h : SameEntry r q) (k : SameEntry q u) : SameEntry r u :=
  ⟨k.index.trans h.index, k.port.trans h.port, k.tag.trans h.tag, k.operation.trans h.operation, k.first.trans h.first,
    k.count.trans h.count, k.mediumCount.trans h.mediumCount, k.blocksDone.trans h.blocksDone, k.retriesUsed.trans h.retriesUsed,
    fun awaits => h.awaits (k.awaits awaits)⟩

/-- An entry that leaves the medium keeps its identity and progress. -/
theorem sameEntry_state {state : RequestState} (left : state ≠ .waiting ∧ state ≠ .ready) (dependencies : List Nat) (r : Request) :
    SameEntry r { r with state := state, dependencies := dependencies } :=
  ⟨rfl, rfl, rfl, rfl, rfl, rfl, rfl, rfl, rfl, fun awaits => absurd ((awaits_iff _).mp awaits) (not_or.mpr left)⟩

theorem sameEntry_of_loosened {r q : Request} (h : Loosened r q) : SameEntry r q := by
  have awaits : q.awaits = true → r.awaits = true := fun k => by
    rcases h.state with same | ⟨waiting, _⟩
    · rwa [awaits_congr same] at k
    · exact (awaits_iff r).mpr (.inl waiting)
  refine ⟨?_, ?_, ?_, ?_, ?_, ?_, ?_, ?_, ?_, awaits⟩ <;> rw [h.same]

theorem heldEntry_same (i : Nat) (status : Status) (failing : Option Nat) (r : Request) :
    SameEntry r (heldEntry i status failing r) := by
  by_cases h : r.index = i
  · rw [heldEntry_own h]
    exact sameEntry_state (state := .held status failing) ⟨nofun, nofun⟩ [] r
  · exact sameEntry_of_loosened (heldEntry_other h status failing)

/-- The end of an ACTIVE request keeps the identity of every entry, and but for its dependencies every other entry. -/
theorem endActive_requests {s : State} {r : Request} (found : findRequest s r.index = some r) (v : Service) (status : Status)
    (failing : Option Nat) : ∃ f : Request → Request, (endActive r v status failing s).requests = s.requests.map f ∧
      ∀ q, SameEntry q (f q) ∧ (q.index ≠ r.index → Loosened q (f q)) := by
  rcases endActive_cases r v status failing s with ⟨_, _, result⟩ | ⟨_, result⟩ <;> rw [result]
  · refine ⟨_, draining_requests r.index status failing s, fun q => ⟨?_, fun apart => ?_⟩⟩
    · split
      · exact sameEntry_trans (sameEntry_state (state := .draining status failing) ⟨nofun, nofun⟩ q.dependencies q)
          (sameEntry_of_loosened (dropDependency_loosened _ _))
      · exact sameEntry_of_loosened (dropDependency_loosened _ _)
    · rw [if_neg apart]
      exact dropDependency_loosened _ _
  · rw [makeWriteReport_requests]
    exact ⟨_, enterHeld_requests found status failing, fun q => ⟨heldEntry_same _ _ _ q, fun apart => heldEntry_other apart _ _⟩⟩

/-- What the scheduler's runs of an event leave: the entries with their identity and progress, those out of its reach in their state,
the items that wait to be posted, the write reports, and WRITE GATE negated. -/
structure Rescheduled (s t : State) : Prop where
  requests : ∃ f : Request → Request, t.requests = s.requests.map f ∧ (∀ r, SameEntry r (f r)) ∧
    ∀ r ∈ s.requests, Rests r.index s → (f r).state = r.state
  pendingRecords : ∀ p item, item ∈ s.pendingRecords.get p → item ∈ t.pendingRecords.get p
  writeReports : t.writeReports = s.writeReports
  writeGate : s.drive.writeGate = false → t.drive.writeGate = false

theorem rescheduled_of_same {s t : State} (requests : t.requests = s.requests) (records : t.pendingRecords = s.pendingRecords)
    (reports : t.writeReports = s.writeReports) (drive : t.drive = s.drive) : Rescheduled s t :=
  ⟨⟨id, by rw [requests, List.map_id], sameEntry_refl, fun _ _ _ => rfl⟩, fun p item h => by rw [records]; exact h, reports,
    fun h => by rw [drive]; exact h⟩

theorem rescheduled_refl (s : State) : Rescheduled s s := rescheduled_of_same rfl rfl rfl rfl

theorem rescheduled_rests {s t : State} (h : Rescheduled s t) {i : Nat} (rests : Rests i s) : Rests i t := fun q mem same => by
  obtain ⟨f, requests, keeps, state⟩ := h.requests
  rw [requests] at mem
  obtain ⟨r, hr, rfl⟩ := List.mem_map.mp mem
  have isIndex : r.index = i := (keeps r).index.symm.trans same
  rw [state r hr (isIndex ▸ rests)]
  exact rests r hr isIndex

theorem rescheduled_trans {s t u : State} (h : Rescheduled s t) (k : Rescheduled t u) : Rescheduled s u := by
  obtain ⟨f, requests, keeps, state⟩ := h.requests
  obtain ⟨g, requests', keeps', state'⟩ := k.requests
  refine ⟨⟨g ∘ f, by rw [requests', requests, List.map_map], fun r => sameEntry_trans (keeps r) (keeps' (f r)), fun r mem rests => ?_⟩,
    fun p item mem => k.pendingRecords p item (h.pendingRecords p item mem), k.writeReports.trans h.writeReports,
    fun gate => k.writeGate (h.writeGate gate)⟩
  have mem' : f r ∈ t.requests := requests ▸ List.mem_map_of_mem mem
  exact (state' (f r) mem' ((keeps r).index ▸ rescheduled_rests h rests)).trans (state r mem rests)

/-- An entry out of the scheduler's reach stands as it was. -/
theorem rescheduled_entry {s t : State} (h : Rescheduled s t) {r : Request} (mem : r ∈ s.requests) (rests : Rests r.index s) :
    ∃ q ∈ t.requests, SameEntry r q ∧ q.state = r.state := by
  obtain ⟨f, requests, keeps, state⟩ := h.requests
  exact ⟨f r, requests ▸ List.mem_map_of_mem mem, keeps r, state r mem rests⟩

theorem rescheduled_heldWith {s t : State} (h : Rescheduled s t) {r : Request} {status : Status} {failing : Option Nat} {n : Nat}
    (rests : Rests r.index s) (k : HeldWith s r status failing n) : HeldWith t r status failing n := by
  obtain ⟨⟨q, mem, index, port, tag, state, done, count, retries⟩, waits⟩ := k
  obtain ⟨u, mem', same, state'⟩ := rescheduled_entry h mem (index ▸ rests)
  exact ⟨⟨u, mem', same.index.trans index, same.port.trans port, same.tag.trans tag, state'.trans state, same.blocksDone.trans done,
    same.mediumCount.trans count, same.retriesUsed.trans retries⟩, h.pendingRecords _ _ waits⟩

/-- The end of a request stands through the scheduler's runs. -/
theorem rescheduled_endedAs {s t : State} (h : Rescheduled s t) {r : Request} {status : Status} {failing : Option Nat} {n : Nat}
    (rests : Rests r.index s) (k : EndedAs s r status failing n) : EndedAs t r status failing n := by
  unfold EndedAs at k ⊢
  cases state : r.state with
  | orphaned =>
    simp only [state] at k ⊢
    obtain ⟨f, requests, keeps, _⟩ := h.requests
    intro q mem
    rw [requests] at mem
    obtain ⟨u, hu, rfl⟩ := List.mem_map.mp mem
    rw [(keeps u).index]
    exact k u hu
  | active stop =>
    cases stop with
    | some reason =>
      simp only [state] at k ⊢
      exact rescheduled_heldWith h rests k
    | none =>
      simp only [state] at k ⊢
      split
      · next undelivered =>
        rw [if_pos undelivered] at k
        obtain ⟨q, mem, index, port, tag, state, done, count, retries⟩ := k
        obtain ⟨u, mem', same, state'⟩ := rescheduled_entry h mem (index ▸ rests)
        exact ⟨u, mem', same.index.trans index, same.port.trans port, same.tag.trans tag, state'.trans state,
          same.blocksDone.trans done, same.mediumCount.trans count, same.retriesUsed.trans retries⟩
      · next done =>
        rw [if_neg done] at k
        exact rescheduled_heldWith h rests k
  | _ => simp only [state] at k

/-! ### The choice and the hand-over (R82 to R90, R100) -/

theorem pickOnCylinder_mem {position : Option Nat} {l : List Request} {r : Request} (h : pickOnCylinder position l = some r) : r ∈ l := by
  unfold pickOnCylinder at h
  split at h
  · exact List.mem_of_mem_head? h
  · exact mem_of_pickLeast h

theorem pickAhead_mem {direction : Sweep} {current : Nat} {position : Option Nat} {l : List Request} {r : Request}
    (h : pickAhead direction current position l = some r) : r ∈ l := by
  unfold pickAhead at h
  dsimp only at h
  split at h
  · cases h
  · exact (List.mem_filter.mp (List.mem_filter.mp (pickOnCylinder_mem h)).1).1

theorem chooseRequest_mem {s : State} {r : Request} (h : chooseRequest s = some r) : r ∈ readyRequests s := by
  unfold chooseRequest at h
  split at h
  · cases h
  · dsimp only at h
    split at h
    · next found =>
      cases h
      exact List.mem_of_find?_eq_some found
    · split at h
      · next picked =>
        cases h
        exact (List.mem_filter.mp (pickOnCylinder_mem picked)).1
      · split at h
        · next picked =>
          cases h
          exact pickAhead_mem picked
        · exact pickAhead_mem h

theorem mem_readyRequests {s : State} {r : Request} : r ∈ readyRequests s ↔ r ∈ s.requests ∧ r.state = .ready := by
  simp only [readyRequests, List.mem_filter, decide_eq_true_eq]

theorem chooseRequest_of_none_ready {s : State} (h : readyRequests s = []) : chooseRequest s = none := by
  cases chosen : chooseRequest s with
  | none => rfl
  | some r =>
    have mem := chooseRequest_mem chosen
    rw [h] at mem
    cases mem

/-- What the hand-over of request `i` makes of an entry: it enters ACTIVE, and the pass counts of the READY ones rise. -/
def activatedEntry (i : Nat) (r : Request) : Request :=
  if r.index = i then { r with state := .active none }
  else if r.state = .ready then raisePassCount r
  else r

theorem activatedEntry_same (i : Nat) (r : Request) : SameEntry r (activatedEntry i r) := by
  unfold activatedEntry
  split
  · exact sameEntry_state (state := .active .none) ⟨nofun, nofun⟩ r.dependencies r
  · split
    · exact ⟨rfl, rfl, rfl, rfl, rfl, rfl, rfl, rfl, rfl, id⟩
    · exact sameEntry_refl r

theorem activatedEntry_other {i : Nat} {r : Request} (h : r.index ≠ i) : (activatedEntry i r).state = r.state := by
  rw [activatedEntry, if_neg h]
  split <;> rfl

/-- The state in which a hand-over leaves the sequencer a service record to enter its track with, or to seek. -/
def handedOver (r : Request) (s : State) : State :=
  (startPrefetch r ((activate r.index s).withSweep (sweepAfter s.sweep (s.sequencer.believed.getD 0) r.cylinder))).modifySequencer
    fun q => { q with service := some (.start r), head := headOf r.first }

theorem handOver_eq (r : Request) (s : State) : handOver r s =
    if r.cylinder = s.sequencer.believed.getD 0 then enterTrack r (handedOver r s) else issueSeek r.cylinder (handedOver r s) := rfl

theorem startPrefetch_frame (r : Request) (s : State) :
    startPrefetch r s = s.withEngines (startPrefetch r s).engines := by
  unfold startPrefetch
  split <;> rfl

theorem handedOver_requests (r : Request) (s : State) : (handedOver r s).requests = s.requests.map (activatedEntry r.index) := by
  unfold handedOver
  rw [startPrefetch_frame]
  rfl

theorem handedOver_frame (r : Request) (s : State) :
    (handedOver r s).drive = s.drive ∧ (handedOver r s).writeReports = s.writeReports ∧
      (handedOver r s).pendingRecords = s.pendingRecords ∧ (handedOver r s).buffers = s.buffers ∧
      (handedOver r s).sweep = sweepAfter s.sweep (s.sequencer.believed.getD 0) r.cylinder ∧
      (handedOver r s).sequencer = { s.sequencer with service := some (.start r), head := headOf r.first } := by
  unfold handedOver
  rw [startPrefetch_frame]
  exact ⟨rfl, rfl, rfl, rfl, rfl, rfl⟩

theorem handedOver_service (r : Request) (s : State) : (handedOver r s).sequencer.service = some (.start r) := rfl

/-- The hand-over of a FORMAT TRACK on its own cylinder that WRITE PROTECT ends (R118). -/
def protectedFormat (r : Request) (s : State) : Prop :=
  r.operation.isFormat = true ∧ r.cylinder = s.sequencer.believed.getD 0 ∧ s.drive.writeProtect = true

/-- The sequencer after a hand-over that begins the request's work (R100). -/
def startedSequencer (r : Request) (q : Sequencer) : Sequencer :=
  { q with
    state := if r.cylinder = q.believed.getD 0 then (if r.operation.isFormat then .formatting else .searching) else .seeking
    head := headOf r.first
    outstanding := if r.cylinder = q.believed.getD 0 then q.outstanding else some (.seek r.cylinder)
    positioningTimer := if r.cylinder = q.believed.getD 0 then q.positioningTimer else some Config.seekLimit
    service := some (.start r) }

/-- A hand-over that WRITE PROTECT does not end. -/
theorem handOver_of_starts {r : Request} {s : State} (h : ¬ protectedFormat r s) :
    handOver r s = (handedOver r s).withSequencer (startedSequencer r s.sequencer) := by
  obtain ⟨drive, _, _, _, _, sequencer⟩ := handedOver_frame r s
  have writeProtect : (handedOver r s).drive.writeProtect = s.drive.writeProtect := by rw [drive]
  rw [handOver_eq]
  by_cases here : r.cylinder = s.sequencer.believed.getD 0
  · rw [if_pos here]
    unfold enterTrack
    cases format : r.operation.isFormat with
    | true =>
      have free : s.drive.writeProtect = false := Bool.eq_false_iff.mpr fun k => h ⟨format, here, k⟩
      simp only [if_true, enterFormatting, handedOver_service, writeProtect, free, Bool.false_eq_true, if_false]
      simp only [State.modifySequencer, sequencer, startedSequencer, if_pos here, format, if_true]
      rfl
    | false =>
      simp only [Bool.false_eq_true, if_false, enterSearching, handedOver_service]
      simp only [State.modifySequencer, sequencer, startedSequencer, if_pos here, format, Bool.false_eq_true, if_false]
      rfl
  · rw [if_neg here]
    simp only [issueSeek, State.modifySequencer, sequencer, startedSequencer, if_neg here]

/-- The state in which WRITE PROTECT ends the hand-over of a FORMAT TRACK. -/
def sampled (r : Request) (s : State) : State :=
  (handedOver r s).modifySequencer fun q => { q with state := .formatting, head := headOf r.first, service := some (.start r) }

theorem handOver_of_protected {r : Request} {s : State} (h : protectedFormat r s) :
    handOver r s = failOnMedium .writeProtected r.first (sampled r s) := by
  obtain ⟨format, here, isProtected⟩ := h
  have writeProtect : (handedOver r s).drive.writeProtect = true := by
    rw [(handedOver_frame r s).1]
    exact isProtected
  rw [handOver_eq, if_pos here, enterTrack, if_pos format]
  simp only [enterFormatting, handedOver_service, writeProtect, if_true]
  rfl

theorem sampled_requests (r : Request) (s : State) : (sampled r s).requests = s.requests.map (activatedEntry r.index) :=
  handedOver_requests r s

theorem isFormat_iff (operation : Operation) : operation.isFormat = true ↔ ∃ defects fill, operation = .format defects fill := by
  cases operation <;> simp [Operation.isFormat]

/-- The entry of a FORMAT TRACK as WRITE PROTECT finds it at the hand-over. -/
theorem findRequest_sampled {r q : Request} {s : State} (found : findRequest s r.index = some q) :
    findRequest (sampled r s) r.index = some { q with state := .active none } := by
  rw [findRequest_map (sampled_requests r s) (fun u => (activatedEntry_same r.index u).index), found, Option.map_some,
    activatedEntry, if_pos (findRequest_some found).2]

theorem raiseRetries_zero (i : Nat) (s : State) : (raiseRetries i 0 s).requests = s.requests := by
  show s.requests.map _ = _
  refine (List.map_congr_left fun q _ => ?_).trans (List.map_id _)
  split
  · simp only [Nat.max_zero]
    rfl
  · rfl

/-- A record that has written no block makes no report. -/
theorem makeWriteReport_of_unwritten {v : Service} (h : v.written = 0) (r : Request) (s : State) : makeWriteReport r v s = s := by
  unfold makeWriteReport
  split
  · rfl
  · exact if_pos h

/-- A hand-over keeps the identity and the progress of every entry, and the state of those out of the scheduler's reach. -/
theorem handOver_rescheduled {r : Request} {s : State} (ready : r ∈ readyRequests s) : Rescheduled s (handOver r s) := by
  obtain ⟨mem, isReady⟩ := mem_readyRequests.mp ready
  obtain ⟨drive, reports, records, _, _, _⟩ := handedOver_frame r s
  have inReach : ∀ q : Request, q.index = r.index → ¬ Rests q.index s := fun q same rests => (rests r mem same.symm).2 isReady
  by_cases h : protectedFormat r s
  · obtain ⟨q, found⟩ := findRequest_isSome mem
    have found₁ := findRequest_sampled found
    have service : (sampled r s).sequencer.service = some (.start r) := rfl
    have result : handOver r s = endOnMedium (.failed .writeProtected (some r.first)) .idle (sampled r s) := handOver_of_protected h
    refine ⟨?_, (handOver_kept r s).pendingRecords, ?_, fun _ => ?_⟩
    · have ended := endOnMedium_eq (e := .failed .writeProtected (some r.first)) service found₁ .idle
      have found₂ := findRequest_raised (v := .start r) found₁ (findRequest_some found).2 0 .idle
      obtain ⟨f, requests, keeps⟩ := endActive_requests
        (r := raisedEntry 0 { q with state := .active none }) found₂ (.start r) .writeProtected (some r.first)
      have isIndex : (raisedEntry 0 { q with state := .active none }).index = r.index := (findRequest_some found).2
      refine ⟨f ∘ activatedEntry r.index, ?_, fun u => sameEntry_trans (activatedEntry_same _ u) (keeps _).1, fun u hu rests => ?_⟩
      · rw [result, ended]
        refine requests.trans ?_
        rw [raiseRetries_zero, ← List.map_map, ← sampled_requests]
        rfl
      · have apart : u.index ≠ r.index := fun same => inReach u same rests
        have other : (activatedEntry r.index u).state = u.state := activatedEntry_other apart
        have loosened := (keeps (activatedEntry r.index u)).2 (by rw [(activatedEntry_same _ u).index, isIndex]; exact apart)
        exact (loosened_state loosened (by rw [other]; exact (rests u hu rfl).1)).trans other
    · have reports₁ := endOnMedium_reports (e := .failed .writeProtected (some r.first)) service found₁ rfl (fun _ => nofun) .idle
      rw [makeWriteReport_of_unwritten rfl, ite_self] at reports₁
      rw [result]
      exact reports₁.trans reports
    · rw [result]
      exact congrArg DriveLines.writeGate (endOnMedium_frame service _ .idle).2
  · rw [handOver_of_starts h]
    refine ⟨⟨_, handedOver_requests r s, activatedEntry_same r.index, fun q _ rests => ?_⟩, fun p item h => ?_, reports, fun gate => ?_⟩
    · by_cases same : q.index = r.index
      · exact absurd rests (inReach q same)
      · exact activatedEntry_other same
    · show item ∈ (handedOver r s).pendingRecords.get p
      rw [records]
      exact h
    · show (handedOver r s).drive.writeGate = false
      rw [drive]
      exact gate

end Sys2Proof.Machine
end

section
/-! The end of an event: what the scheduler's runs and the engines' choices leave, and with it the acceptance of a transfer, CANCEL and the
ends of the fault hold (chapters 4 to 7; log 13). -/

namespace Sys2Proof.Machine

open Sys2Proof.Safety

/-! ### The engines' part of an event -/

/-- Nothing but the buffers and the engines differs, of what an event may change. -/
structure EnginesOnly (s t : State) : Prop where
  requests : t.requests = s.requests
  pendingRecords : t.pendingRecords = s.pendingRecords
  drive : DriveSame s t
  initLine : t.initLine = s.initLine
  settings : t.settings = s.settings

theorem enginesOnly_refl (s : State) : EnginesOnly s s := ⟨rfl, rfl, driveSame_refl s, rfl, rfl⟩

theorem enginesOnly_trans {s t u : State} (h : EnginesOnly s t) (k : EnginesOnly t u) : EnginesOnly s u :=
  ⟨k.requests.trans h.requests, k.pendingRecords.trans h.pendingRecords, driveSame_trans h.drive k.drive,
    k.initLine.trans h.initLine, k.settings.trans h.settings⟩

theorem modifyEngine_enginesOnly (s : State) (p : Port) (f : Engine → Engine) : EnginesOnly s (s.modifyEngine p f) :=
  ⟨rfl, rfl, ⟨rfl, rfl, rfl, rfl⟩, rfl, rfl⟩

theorem setBuffer_enginesOnly (i : Nat) (b : Option Buffer) (s : State) : EnginesOnly s (setBuffer i b s) :=
  ⟨rfl, rfl, ⟨rfl, rfl, rfl, rfl⟩, rfl, rfl⟩

theorem prefetchPort_enginesOnly (p : Port) (n : Nat) (s : State) : EnginesOnly s (prefetchPort p n s) := by
  induction n generalizing s with
  | zero => exact enginesOnly_refl s
  | succ n ih =>
    unfold prefetchPort
    split
    · exact enginesOnly_refl s
    · split
      · split
        · exact modifyEngine_enginesOnly s p _
        · exact enginesOnly_trans (enginesOnly_trans (setBuffer_enginesOnly _ _ s) (modifyEngine_enginesOnly _ p _)) (ih _)
      · exact enginesOnly_refl s

theorem chooseWork_enginesOnly (p : Port) (s : State) : EnginesOnly s (chooseWork p s) := by
  unfold chooseWork
  split
  · split
    · exact enginesOnly_refl s
    · exact enginesOnly_trans (enginesOnly_trans (setBuffer_enginesOnly _ _ s) (modifyEngine_enginesOnly _ p _))
        (modifyEngine_enginesOnly _ p _)
  · exact enginesOnly_refl s

theorem forPorts_enginesOnly {f : Port → State → State} (h : ∀ p s, EnginesOnly s (f p s)) (s : State) :
    EnginesOnly s (forPorts f s) :=
  enginesOnly_trans (h .a s) (enginesOnly_trans (h .b _) (enginesOnly_trans (h .c _) (h .d _)))

/-- What follows the scheduler's runs in an event: the claims of the prefetches and the engines' choices. -/
def engineRound (s : State) : State :=
  forPorts chooseWork (forPorts (fun p => prefetchPort p (Config.buffersPerRequest + 1)) s)

theorem settle_eq (s : State) : settle s = engineRound (runScheduler (s.requests.length + 1) s) := rfl

theorem engineRound_enginesOnly (s : State) : EnginesOnly s (engineRound s) :=
  enginesOnly_trans (forPorts_enginesOnly (fun p => prefetchPort_enginesOnly p _) s) (forPorts_enginesOnly chooseWork_enginesOnly _)

/-! ### The scheduler's part of an event -/

/-- The scheduler has no run: the sequencer is not IDLE, or no request is READY. -/
def Quiet (s : State) : Prop := s.sequencer.state = .idle → readyRequests s = []

theorem quiet_of_state {s : State} {state : SequencerState} (h : s.sequencer.state = state) (notIdle : state ≠ .idle) : Quiet s :=
  fun idle => absurd (h.symm.trans idle) notIdle

theorem runScheduler_of_quiet {s : State} (h : Quiet s) (n : Nat) : runScheduler n s = s := by
  cases n with
  | zero => rfl
  | succ n =>
    unfold runScheduler
    split
    · next idle => rw [chooseRequest_of_none_ready (h idle)]
    · rfl

theorem settle_of_quiet {s : State} (h : Quiet s) : settle s = engineRound s := by
  rw [settle_eq, runScheduler_of_quiet h]

theorem settle_quiet {s : State} (h : Quiet s) : EnginesOnly s (settle s) := by
  rw [settle_of_quiet h]
  exact engineRound_enginesOnly s

theorem runScheduler_rescheduled (n : Nat) (s : State) : Rescheduled s (runScheduler n s) := by
  induction n generalizing s with
  | zero => exact rescheduled_refl s
  | succ n ih =>
    unfold runScheduler
    split
    · split
      · exact rescheduled_refl s
      · next chosen => exact rescheduled_trans (handOver_rescheduled (chooseRequest_mem chosen)) (ih _)
    · exact rescheduled_refl s

theorem rescheduled_of_enginesOnly {s t : State} (h : EnginesOnly s t) : Rescheduled s t :=
  rescheduled_of_same h.requests h.pendingRecords h.drive.writeReports h.drive.drive

theorem settle_rescheduled (s : State) : Rescheduled s (settle s) :=
  rescheduled_trans (runScheduler_rescheduled _ s) (rescheduled_of_enginesOnly (engineRound_enginesOnly _))

/-! ### The end of a request, and the event it is part of -/

/-- What a request's end leaves at the end of its event: its outcome in the table, WRITE GATE negated, and the report of what it has
written. -/
structure EndSettled (s t : State) (v : Service) (r : Request) (e : MediumEnd) : Prop where
  ended : EndedAs t r e.status e.failing (e.retries v)
  writeGate : t.drive.writeGate = false
  writeReports : t.writeReports = if r.state = .orphaned then s.writeReports else (makeWriteReport r v s).writeReports

theorem settle_ended {s : State} {v : Service} {r : Request} (service : s.sequencer.service = some v)
    (found : findRequest s v.entry = some r) (isServed : served r = true) {e : MediumEnd} (tellable : e.tellable r)
    (next : SequencerState) : EndSettled s (settle (endOnMedium e next s)) v r e := by
  obtain ⟨ended, rests⟩ := endOnMedium_endedAs service found isServed tellable next
  have rescheduled := settle_rescheduled (endOnMedium e next s)
  refine ⟨rescheduled_endedAs rescheduled rests ended, rescheduled.writeGate ?_, ?_⟩
  · rw [(endOnMedium_frame service e next).2]
  · rw [rescheduled.writeReports, endOnMedium_reports service found isServed tellable next]

theorem failCurrent_eq {s : State} {v : Service} (service : s.sequencer.service = some v) (status : Status) :
    failCurrent status s = endOnMedium (.failed status (some v.current)) .idle s := by
  simp only [failCurrent, service]
  rfl

/-! ### The acceptance of a transfer (R60, R61) -/

theorem decideTransfer_of_acceptable {p : Port} {x : Transfer} {s : State} (h : Acceptable p x s) :
    ∃ i, lowestFreeEntry s = some i ∧ decideTransfer p x s = ⟨.accepted i, acceptTransfer i p x s⟩ := by
  obtain ⟨i, lowest⟩ := exists_lowestFreeEntry h.entry
  have passes := (transferRefusal_none_iff p x s).mpr h
  exact ⟨i, lowest, by simp only [decideTransfer, passes, lowest]⟩

theorem mem_dependenciesOf {p : Port} {x : Transfer} {s : State} {j : Nat} :
    j ∈ dependenciesOf p x s ↔ ∃ q ∈ s.requests, q.index = j ∧ q.port = p ∧ q.onMedium = true ∧
      q.extent.overlaps x.extent = true ∧ (q.operation.changesMedium = true ∨ x.operation.changesMedium = true) := by
  simp only [dependenciesOf, List.mem_map, List.mem_filter, Bool.and_eq_true, Bool.or_eq_true, decide_eq_true_eq]
  constructor
  · rintro ⟨q, ⟨mem, ⟨⟨own, onMedium⟩, overlaps⟩, changes⟩, rfl⟩
    exact ⟨q, mem, rfl, own, onMedium, overlaps, changes⟩
  · rintro ⟨q, mem, rfl, own, onMedium, overlaps, changes⟩
    exact ⟨q, ⟨mem, ⟨⟨own, onMedium⟩, overlaps⟩, changes⟩, rfl⟩

/-- An acceptance fills the entry, and may have the scheduler choose. -/
theorem acceptTransfer_rescheduled (i : Nat) (p : Port) (x : Transfer) (s : State) :
    Rescheduled (s.withRequests (s.requests ++ [newRequest i p x s])) (acceptTransfer i p x s) := by
  unfold acceptTransfer
  dsimp only
  split
  · exact settle_rescheduled _
  · exact rescheduled_refl _

theorem acceptTransfer_requests {i : Nat} {p : Port} {x : Transfer} {s : State} (notIdle : s.sequencer.state ≠ .idle) :
    (acceptTransfer i p x s).requests = s.requests ++ [newRequest i p x s] := by
  unfold acceptTransfer
  dsimp only
  split
  · exact (settle_quiet (s := s.withRequests (s.requests ++ [newRequest i p x s])) fun idle => absurd idle notIdle).requests
  · rfl

theorem acceptTransfer_entered {i : Nat} {p : Port} {x : Transfer} {s t : State} (lowest : lowestFreeEntry s = some i)
    (requests : t.requests = (acceptTransfer i p x s).requests) : Entered s t p x i := by
  refine ⟨lowestFreeEntry_some lowest, ?_, fun notIdle => ?_⟩
  · obtain ⟨f, result, keeps, _⟩ := (acceptTransfer_rescheduled i p x s).requests
    have same := keeps (newRequest i p x s)
    refine ⟨f (newRequest i p x s), ?_, same.index, same.port, same.tag, same.operation, same.first, same.count, same.blocksDone,
      same.mediumCount, same.retriesUsed⟩
    rw [requests, result]
    exact List.mem_map_of_mem (List.mem_append_right _ (List.mem_singleton_self _))
  · exact ⟨newRequest i p x s, requests.trans (acceptTransfer_requests notIdle), rfl, rfl, rfl, fun j => mem_dependenciesOf⟩

/-- A response posted on a state that differs from `s` in the work in progress alone. -/
theorem workOnly_of_posted {s t u : State} (work : WorkOnly s u) (posted : t = u.withWindows t.windows) :
    WorkOnly (s.withWindows t.windows) t := by
  rw [posted]
  exact ⟨work.pending, rfl, work.windowBase, work.initLine, work.enables, work.completions, work.notices, work.watches, work.locks,
    work.waiters, work.settings, work.token⟩

/-- Settles O14, by the entry that the acceptance fills. -/
theorem transferAccepted : Obligations.TransferAccepted := by
  intro p command s c code x mem h acceptable
  obtain ⟨i, lowest, decided⟩ := decideTransfer_of_acceptable acceptable
  have work : WorkOnly s (acceptTransfer i p x s) := by
    have := decideTransfer_workOnly p x s
    rwa [decided] at this
  obtain ⟨t, next, answered, posted⟩ := answered_of_post work.windows (exec_transfer mem h decided)
  refine ⟨t, i, next, answered, workOnly_of_posted work posted, acceptTransfer_entered lowest ?_⟩
  rw [posted]
  rfl

/-! ### CANCEL (R74, R115, R116) -/

theorem findTag_some {s : State} {p : Port} {tag : BitVec 8} {r : Request} (h : findTag s p tag = some r) :
    r ∈ s.requests ∧ r.port = p ∧ r.tag = tag ∧ r.state ≠ .orphaned := by
  have test := List.find?_some h
  simp only [Bool.and_eq_true, decide_eq_true_eq, Request.counts] at test
  exact ⟨List.mem_of_find?_eq_some h, test.1.1, test.1.2, test.2⟩

theorem exec_cancel {p : Port} {command : List Word} {s : State} (h : InHand s p command 0x05) {r : Response} {u : State}
    (decided : decideCancel p (tagOf command) s = ⟨r, u⟩) :
    exec (.cancel p) s = .next (postResponse p (commandCode command) r u) :=
  exec_of_taken (decision := fun cmd => decideCancel p (tagOf cmd)) rfl h rfl decided

/-- A request that was not past the medium and is HELD stands so at the end of the event. -/
theorem settle_heldWith {s : State} {i : Nat} {r : Request} (found : findRequest s i = some r) (status : Status) (failing : Option Nat) :
    HeldWith (settle (enterHeld i status failing s)) r status failing 0 := by
  refine rescheduled_heldWith (settle_rescheduled _) ?_ (enterHeld_heldWith found status failing)
  rw [(findRequest_some found).2]
  exact enterHeld_rests found status failing

theorem modifyService_of_service {s : State} {v : Service} (service : s.sequencer.service = some v) (f : Service → Service) :
    modifyService f s = s.withSequencer { s.sequencer with service := some (f v) } := by
  simp only [modifyService, State.modifySequencer, service, Option.map_some]

/-- The state in which a stop has been asked of the served request. -/
theorem markStop_frame {s : State} {v : Service} (service : s.sequencer.service = some v) (i : Nat) (reason : Status) :
    (markStop i reason s).sequencer = { s.sequencer with service := some { v with stopAsked := true } } ∧
      (markStop i reason s).drive = s.drive ∧ (markStop i reason s).pendingRecords = s.pendingRecords ∧
      (markStop i reason s).requests =
        s.requests.map (fun q => if q.index = i then { q with state := .active (some reason) } else q) := by
  refine ⟨?_, rfl, rfl, rfl⟩
  have service' : (updateRequest i (fun q => { q with state := .active (some reason) }) s).sequencer.service = some v := service
  rw [markStop, modifyService_of_service service']
  rfl

theorem askStop_of_active {s : State} {i : Nat} {r : Request} (found : findRequest s i = some r) (state : r.state = .active none)
    (reason : Status) : askStop i reason s = takeStop (markStop i reason s) := by
  simp only [askStop, found, if_pos state]

theorem takeStop_of_atOnce {s : State} (h : stopsAtOnce s = true) : takeStop s = endOnMedium .stopped .idle s := by
  unfold stopsAtOnce at h
  unfold takeStop
  split at h <;> simp_all

theorem takeStop_of_pending {s : State} (h : stopsAtOnce s = false) : takeStop s = s := by
  unfold stopsAtOnce at h
  unfold takeStop
  split at h <;> simp_all

theorem stopsAtOnce_congr {s t : State} (state : t.sequencer.state = s.sequencer.state) (drive : t.drive = s.drive) :
    stopsAtOnce t = stopsAtOnce s := by
  unfold stopsAtOnce
  rw [state, drive]

/-- A stop is taken only while the sequencer serves a request. -/
theorem notIdle_of_service_pending {s : State} (h : s.sequencer.state = .seeking ∨ s.sequencer.state = .transferring ∨
    (s.sequencer.state = .formatting ∧ s.drive.writeGate = true)) : stopsAtOnce s = false ∧ s.sequencer.state ≠ .idle := by
  unfold stopsAtOnce
  rcases h with h | h | ⟨h, gate⟩ <;> simp [*]

theorem findRequest_markStop {s : State} {i : Nat} {r : Request} (found : findRequest s i = some r) (reason : Status) :
    findRequest (markStop i reason s) i = some { r with state := .active (some reason) } :=
  findRequest_update (f := fun q => { q with state := .active (some reason) }) (fun _ => rfl) found

/-- A stop asked and taken at once ends the request with its reason. -/
theorem settle_askStop_atOnce {s : State} {v : Service} {r : Request} (found : findRequest s v.entry = some r)
    (state : r.state = .active none) (service : s.sequencer.service = some v) (atOnce : stopsAtOnce s = true) (reason : Status) :
    HeldWith (settle (askStop v.entry reason s)) r reason none v.retriesSpent := by
  obtain ⟨sequencer, drive, _, _⟩ := markStop_frame service v.entry reason
  have atOnce' : stopsAtOnce (markStop v.entry reason s) = true := by
    rw [stopsAtOnce_congr (by rw [sequencer]) drive]
    exact atOnce
  have service' : (markStop v.entry reason s).sequencer.service = some { v with stopAsked := true } := by rw [sequencer]
  have ended := (settle_ended service' (findRequest_markStop found reason) rfl (e := .stopped) nofun .idle).ended
  rw [askStop_of_active found state, takeStop_of_atOnce atOnce']
  exact ended

/-- A stop asked that waits for its block boundary is pending in the table and asked of the sequencer. -/
theorem settle_askStop_pending {s : State} {v : Service} {i : Nat} {r : Request} (found : findRequest s i = some r)
    (state : r.state = .active none) (service : s.sequencer.service = some v) (pending : stopsAtOnce s = false)
    (notIdle : s.sequencer.state ≠ .idle) (reason : Status) :
    (settle (askStop i reason s)).requests =
        s.requests.map (fun q => if q.index = i then { q with state := .active (some reason) } else q) ∧
      (settle (askStop i reason s)).sequencer = { s.sequencer with service := some { v with stopAsked := true } } := by
  obtain ⟨sequencer, drive, _, requests⟩ := markStop_frame service i reason
  have pending' : stopsAtOnce (markStop i reason s) = false := by
    rw [stopsAtOnce_congr (by rw [sequencer]) drive]
    exact pending
  rw [askStop_of_active found state, takeStop_of_pending pending']
  have quiet := settle_quiet (s := markStop i reason s) (quiet_of_state (by rw [sequencer]) notIdle)
  exact ⟨quiet.requests.trans requests, quiet.drive.sequencer.trans sequencer⟩

/-- Settles O16, by the state of the request the tag names. -/
theorem cancelEndsOrStopsTheRequest : Obligations.CancelEndsOrStopsTheRequest := by
  have answered : ∀ {p command s u}, InHand s p command 0x05 → decideCancel p (tagOf command) s = ⟨.done, u⟩ →
      ∃ t, exec (.cancel p) s = .next t ∧ Answered s t p command .done ∧ WorkOnly (s.withWindows t.windows) t ∧
        t.requests = u.requests ∧ t.pendingRecords = u.pendingRecords ∧ t.sequencer = u.sequencer := fun {p command s u} h decided => by
    have work : WorkOnly s u := by
      have := decideCancel_workOnly p (tagOf command) s
      rwa [decided] at this
    obtain ⟨t, next, answered, posted⟩ := answered_of_post work.windows (exec_cancel h decided)
    refine ⟨t, next, answered, workOnly_of_posted work posted, ?_, ?_, ?_⟩ <;> rw [posted] <;> rfl
  constructor
  · intro p command s r h distinct named state
    obtain ⟨mem, _⟩ := findTag_some named
    have decided : decideCancel p (tagOf command) s = ⟨.done, settle (enterHeld r.index .cancelled none s)⟩ := by
      rcases state with state | state <;> simp only [decideCancel, named, state]
    obtain ⟨t, next, answers, work, requests, records, _⟩ := answered h decided
    exact ⟨t, next, answers, work,
      heldWith_congr requests records (settle_heldWith (findRequest_of_mem distinct mem) .cancelled none)⟩
  · intro p command s h distinct
    have refused : ∀ {r}, decideCancel p (tagOf command) s = ⟨r, s⟩ → AnsweredOnly (.cancel p) s p command r := fun decided =>
      answeredOnly_of_refuse (exec_cancel h decided)
    refine ⟨fun r v named state service isEntry phase => ?_, fun r v named state service phase => ?_, fun r stop named state => ?_,
      fun r status failing named state => ?_, fun orphans => ?_⟩
    · have found : findRequest s v.entry = some r := by
        rw [isEntry]
        exact findRequest_of_mem distinct (findTag_some named).1
      have decided : decideCancel p (tagOf command) s = ⟨.done, settle (askStop v.entry .cancelled s)⟩ := by
        simp only [decideCancel, named, state, isEntry]
      have atOnce : stopsAtOnce s = true := by
        unfold stopsAtOnce
        rcases phase with phase | phase | ⟨phase, gate⟩ <;> simp [*]
      obtain ⟨t, next, answers, work, requests, records, _⟩ := answered h decided
      exact ⟨t, next, answers, work, heldWith_congr requests records (settle_askStop_atOnce found state service atOnce .cancelled)⟩
    · have decided : decideCancel p (tagOf command) s = ⟨.done, settle (askStop r.index .cancelled s)⟩ := by
        simp only [decideCancel, named, state]
      obtain ⟨pending, notIdle⟩ := notIdle_of_service_pending phase
      obtain ⟨t, next, answers, work, requests, _, sequencer⟩ := answered h decided
      obtain ⟨requests', sequencer'⟩ := settle_askStop_pending (findRequest_of_mem distinct (findTag_some named).1) state service pending
        notIdle .cancelled
      exact ⟨t, next, answers, work, requests.trans requests', sequencer.trans sequencer'⟩
    · exact refused (by simp only [decideCancel, named, state])
    · refine refused ?_
      rcases state with state | state <;> simp only [decideCancel, named, state] <;> rfl
    · have none : findTag s p (tagOf command) = none := by
        cases named : findTag s p (tagOf command) with
        | none => rfl
        | some r =>
          obtain ⟨mem, own, tag, counted⟩ := findTag_some named
          exact absurd (orphans r mem own tag) counted
      refine refused ?_
      simp only [decideCancel, none]
      rfl

/-! ### OFFLINE and the fault hold (R78, R96, R98) -/

/-- The turn of one entry in the report of OFFLINE. -/
def offlineTurn (s : State) (i : Nat) : State :=
  match findRequest s i with
  | none => s
  | some r =>
    match r.state with
    | .waiting => enterHeld i .driveNotReady none s
    | .ready => enterHeld i .driveNotReady none s
    | _ => s

theorem offlineReport_eq (s : State) : offlineReport s = (s.requests.map Request.index).foldl offlineTurn s := rfl

theorem offlineTurn_cases (s : State) (i : Nat) :
    (offlineTurn s i = s ∧ ∀ r, findRequest s i = some r → r.state ≠ .waiting ∧ r.state ≠ .ready) ∨
      ∃ r, findRequest s i = some r ∧ (r.state = .waiting ∨ r.state = .ready) ∧
        offlineTurn s i = enterHeld i .driveNotReady none s := by
  unfold offlineTurn
  split
  · next none => exact .inl ⟨rfl, fun r h => absurd (none.symm.trans h) nofun⟩
  · next r found =>
    split
    · next state => exact .inr ⟨r, found, .inl state, rfl⟩
    · next state => exact .inr ⟨r, found, .inr state, rfl⟩
    · next notWaiting notReady =>
      refine .inl ⟨rfl, fun q h => ?_⟩
      rw [found] at h
      cases h
      exact ⟨notWaiting, notReady⟩

theorem offlineReport_frame (s : State) : DriveSame s (offlineReport s) := by
  rw [offlineReport_eq]
  generalize s.requests.map Request.index = l
  induction l generalizing s with
  | nil => exact driveSame_refl s
  | cons i l ih =>
    refine driveSame_trans ?_ (ih _)
    rcases offlineTurn_cases s i with ⟨same, _⟩ | ⟨_, _, _, held⟩
    · rw [same]
      exact driveSame_refl s
    · rw [held]
      exact enterHeld_frame _ _ _ s

/-- An entry past the medium, or one that is served, is left by the entries into HELD of others. -/
theorem enterHeld_keeps {s : State} {i : Nat} {q : Request} (mem : q ∈ s.requests) (other : q.index ≠ i) (notWaiting : q.state ≠ .waiting)
    (status : Status) (failing : Option Nat) :
    ∃ u ∈ (enterHeld i status failing s).requests, SameEntry q u ∧ u.state = q.state := by
  cases found : findRequest s i with
  | none => rw [enterHeld_of_none found]; exact ⟨q, mem, sameEntry_refl q, rfl⟩
  | some r =>
    refine ⟨heldEntry i status failing q, ?_, heldEntry_same i status failing q, loosened_state (heldEntry_other other _ _) notWaiting⟩
    rw [enterHeld_requests found]
    exact List.mem_map_of_mem mem

/-- An entry that no turn concerns stands as it was. -/
theorem foldl_offlineTurn_keeps (l : List Nat) {s : State} (distinct : EntriesDistinct s) {q : Request} (mem : q ∈ s.requests)
    (notWaiting : q.state ≠ .waiting) (notReady : q.state ≠ .ready) :
    ∃ u ∈ (l.foldl offlineTurn s).requests, SameEntry q u ∧ u.state = q.state := by
  induction l generalizing s q with
  | nil => exact ⟨q, mem, sameEntry_refl q, rfl⟩
  | cons i l ih =>
    rw [List.foldl_cons]
    rcases offlineTurn_cases s i with ⟨same, _⟩ | ⟨r, found, state, held⟩
    · rw [same]
      exact ih distinct mem notWaiting notReady
    · have other : q.index ≠ i := fun isIndex => by
        have found' := findRequest_of_mem distinct mem
        rw [isIndex, found] at found'
        cases found'
        exact state.elim notWaiting notReady
      obtain ⟨u, mem', same, state'⟩ := enterHeld_keeps mem other notWaiting .driveNotReady none
      rw [held]
      obtain ⟨w, mem'', same', state''⟩ := ih (entriesDistinct_of_kept (enterHeld_kept _ _ _ s) distinct) mem'
        (state' ▸ notWaiting) (state' ▸ notReady)
      exact ⟨w, mem'', sameEntry_trans same same', state''.trans state'⟩

theorem foldl_offlineTurn_pending (l : List Nat) (s : State) (p : Port) (item : OwnerRef) (h : item ∈ s.pendingRecords.get p) :
    item ∈ (l.foldl offlineTurn s).pendingRecords.get p := by
  induction l generalizing s with
  | nil => exact h
  | cons i l ih =>
    refine ih _ ?_
    rcases offlineTurn_cases s i with ⟨same, _⟩ | ⟨_, _, _, held⟩
    · rw [same]
      exact h
    · rw [held]
      exact (enterHeld_kept _ _ _ s).pendingRecords p item h

/-- A WAITING or READY request whose turn comes is HELD with DRIVE NOT READY. -/
theorem foldl_offlineTurn_held (l : List Nat) {s : State} (distinct : EntriesDistinct s) {r : Request} (mem : r ∈ s.requests)
    (state : r.state = .waiting ∨ r.state = .ready) (turn : r.index ∈ l) :
    HeldWith (l.foldl offlineTurn s) r .driveNotReady none 0 := by
  induction l generalizing s r with
  | nil => cases turn
  | cons i l ih =>
    rw [List.foldl_cons]
    have found := findRequest_of_mem distinct mem
    by_cases own : r.index = i
    · subst own
      rcases offlineTurn_cases s r.index with ⟨_, neither⟩ | ⟨q, _, _, held⟩
      · exact absurd state fun h => h.elim (neither r found).1 (neither r found).2
      · rw [held]
        obtain ⟨⟨q, hq, index, port, tag, isHeld, done, count, retries⟩, waits⟩ := enterHeld_heldWith found .driveNotReady none
        obtain ⟨u, hu, same, state'⟩ := foldl_offlineTurn_keeps l (entriesDistinct_of_kept (enterHeld_kept _ _ _ s) distinct) hq
          (by rw [isHeld]; exact nofun) (by rw [isHeld]; exact nofun)
        exact ⟨⟨u, hu, same.index.trans index, same.port.trans port, same.tag.trans tag, state'.trans isHeld, same.blocksDone.trans done,
          same.mediumCount.trans count, same.retriesUsed.trans retries⟩, foldl_offlineTurn_pending l _ _ _ waits⟩
    · have later : r.index ∈ l := (List.mem_cons.mp turn).resolve_left own
      rcases offlineTurn_cases s i with ⟨same, _⟩ | ⟨q, found', _, held⟩
      · rw [same]
        exact ih distinct mem state later
      · rw [held]
        have loosened := heldEntry_other own .driveNotReady none
        have mem' : heldEntry i .driveNotReady none r ∈ (enterHeld i .driveNotReady none s).requests := by
          rw [enterHeld_requests found']
          exact List.mem_map_of_mem mem
        have state' : (heldEntry i .driveNotReady none r).state = .waiting ∨ (heldEntry i .driveNotReady none r).state = .ready := by
          rcases loosened.state with same | ⟨_, ready⟩
          · rw [same]
            exact state
          · exact .inr ready
        have held' := ih (entriesDistinct_of_kept (enterHeld_kept _ _ _ s) distinct) mem' state'
          ((loosened_index loosened).symm ▸ later)
        have sameEntry := sameEntry_of_loosened loosened
        unfold HeldWith at held' ⊢
        rw [sameEntry.index, sameEntry.port, sameEntry.tag, sameEntry.blocksDone, sameEntry.mediumCount, sameEntry.retriesUsed] at held'
        exact held'

theorem offlineReport_held {s : State} (distinct : EntriesDistinct s) {r : Request} (mem : r ∈ s.requests)
    (state : r.state = .waiting ∨ r.state = .ready) : HeldWith (offlineReport s) r .driveNotReady none 0 :=
  foldl_offlineTurn_held _ distinct mem state (List.mem_map_of_mem mem)

/-- Settles O35: the rising READY by its equation, the expiry by the report of OFFLINE. -/
theorem holdingAndOfflineAreLeft : Obligations.HoldingAndOfflineAreLeft := by
  refine ⟨fun wp s negated state => ?_, fun s distinct holding timer => ?_⟩
  · have next : exec (.risingReady wp) s = .next (riseReady (senseWriteProtect wp s)) := by
      show Host.Outcome.next (if s.drive.ready then _ else _) = _
      rw [negated]
      rfl
    rw [next]
    rcases state with state | state <;>
      simp only [riseReady, senseWriteProtect, State.modifyDrive, State.withDrive_fields, state, issueRecalibrate,
        State.modifySequencer, State.withSequencer_fields] <;> rfl
  · have next : exec .faultHoldExpiry s =
        .next (offlineReport (s.modifySequencer fun q => { q with state := .offline, faultHoldTimer := none })) :=
      congrArg Host.Outcome.next (if_pos ⟨holding, timer⟩)
    have frame := offlineReport_frame (s.modifySequencer fun q => { q with state := .offline, faultHoldTimer := none })
    refine ⟨_, next, workOnly_trans (modifySequencer_workOnly s _) (offlineReport_workOnly _), frame.sequencer, frame.drive,
      fun r mem state => ?_, fun r mem notWaiting notReady => ?_⟩
    · exact offlineReport_held (s := s.modifySequencer _) distinct mem state
    · obtain ⟨u, hu, same, state⟩ := foldl_offlineTurn_keeps (s.requests.map Request.index)
        (s := s.modifySequencer fun q => { q with state := .offline, faultHoldTimer := none }) distinct mem notWaiting notReady
      exact ⟨u, hu, same.index, state⟩

end Sys2Proof.Machine
end

section
/-! The scheduler's choice by its three rules and their ties, and the runs that leave no READY request beside an IDLE sequencer
(chapter 5). -/

namespace Sys2Proof.Machine

open Sys2Proof.Safety

/-! ### The least of a list -/

theorem pickLeast_none {α : Type} {measure : α → Nat} {l : List α} : pickLeast measure l = none ↔ l = [] := by
  cases l with
  | nil => exact iff_of_true rfl rfl
  | cons x rest =>
    refine iff_of_false ?_ nofun
    unfold pickLeast
    split
    · exact nofun
    · split <;> exact nofun

/-- The element picked has the smallest measure, and every element before it a greater one. -/
theorem pickLeast_some {α : Type} {measure : α → Nat} {l : List α} {x : α} (h : pickLeast measure l = some x) :
    ∃ older younger, l = older ++ x :: younger ∧ (∀ y ∈ older, measure x < measure y) ∧ ∀ y ∈ younger, measure x ≤ measure y := by
  induction l generalizing x with
  | nil => cases h
  | cons y rest ih =>
    unfold pickLeast at h
    split at h
    · next isEmpty =>
      cases h
      exact ⟨[], rest, rfl, nofun, by rw [pickLeast_none.mp isEmpty]; exact nofun⟩
    · next least picked =>
      obtain ⟨older, younger, split, before, after⟩ := ih picked
      split at h
      · next less =>
        cases h
        exact ⟨y :: older, younger, by rw [split]; rfl, List.forall_mem_cons.mpr ⟨less, before⟩, after⟩
      · next notLess =>
        cases h
        refine ⟨[], rest, rfl, nofun, fun z mem => ?_⟩
        have atLeast : measure least ≤ measure z := by
          rw [split] at mem
          rcases List.mem_append.mp mem with mem | mem
          · exact Nat.le_of_lt (before z mem)
          · rcases List.mem_cons.mp mem with rfl | mem
            · exact Nat.le_refl _
            · exact after z mem
        exact Nat.le_trans (Nat.le_of_not_lt notLess) atLeast

theorem pickLeast_le {α : Type} {measure : α → Nat} {l : List α} {x y : α} (h : pickLeast measure l = some x) (mem : y ∈ l) :
    measure x ≤ measure y := by
  obtain ⟨older, younger, rfl, before, after⟩ := pickLeast_some h
  rcases List.mem_append.mp mem with mem | mem
  · exact Nat.le_of_lt (before y mem)
  · rcases List.mem_cons.mp mem with rfl | mem
    · exact Nat.le_refl _
    · exact after y mem

/-- A place in a filtered list is a place in the list. -/
theorem split_of_filter {α : Type} {test : α → Bool} {l older younger : List α} {x : α}
    (h : l.filter test = older ++ x :: younger) : ∃ before after, l = before ++ x :: after ∧ before.filter test = older := by
  obtain ⟨before, rest, split, hbefore, hrest⟩ := List.filter_eq_append_iff.mp h
  obtain ⟨skipped, after, split', hskipped, _, _⟩ := List.filter_eq_cons_iff.mp hrest
  refine ⟨before ++ skipped, after, by rw [split, split', List.append_assoc], ?_⟩
  rw [List.filter_append, hbefore, List.filter_eq_nil_iff.mpr hskipped, List.append_nil]

/-! ### The choice on one cylinder (R85, R86) -/

/-- The requests of a list on one cylinder. -/
def onCylinder (c : Nat) (l : List Request) : List Request := l.filter fun r => decide (r.cylinder = c)

theorem mem_onCylinder {c : Nat} {l : List Request} {r : Request} : r ∈ onCylinder c l ↔ r ∈ l ∧ r.cylinder = c := by
  rw [onCylinder, List.mem_filter, decide_eq_true_eq]

/-- The marks to pass before the first block of a request. -/
def marksBefore (p : Nat) (r : Request) : Nat := marksToPass p (blockOf r.first)

/-- The request `r` of a list has the soonest block of those on its cylinder, and is the oldest of those with it; with the position
UNKNOWN it is the oldest. -/
structure SoonestOn (position : Option Nat) (older : List Request) (l : List Request) (r : Request) : Prop where
  soonest : ∀ p, position = some p → ∀ q ∈ l, q.cylinder = r.cylinder → marksBefore p r ≤ marksBefore p q
  first : ∀ p, position = some p → ∀ q ∈ older, q.cylinder = r.cylinder → marksBefore p r ≠ marksBefore p q
  oldest : position = none → ∀ q ∈ older, q.cylinder ≠ r.cylinder

theorem pickOnCylinder_none {position : Option Nat} {l : List Request} : pickOnCylinder position l = none ↔ l = [] := by
  cases position with
  | none => exact List.head?_eq_none_iff
  | some p => exact pickLeast_none

theorem pickOnCylinder_some {position : Option Nat} {c : Nat} {l : List Request} {r : Request}
    (h : pickOnCylinder position (onCylinder c l) = some r) :
    r.cylinder = c ∧ ∃ older younger, l = older ++ r :: younger ∧ SoonestOn position older l r := by
  obtain ⟨_, rfl⟩ := mem_onCylinder.mp (pickOnCylinder_mem h)
  refine ⟨rfl, ?_⟩
  cases position with
  | none =>
    obtain ⟨rest, isHead⟩ := List.head?_eq_some_iff.mp h
    obtain ⟨before, after, split, nobody⟩ := split_of_filter (older := []) isHead
    refine ⟨before, after, split, nofun, nofun, fun _ q mem same => ?_⟩
    exact List.filter_eq_nil_iff.mp nobody q mem (decide_eq_true same)
  | some p =>
    obtain ⟨older, younger, split, before, after⟩ := pickLeast_some h
    obtain ⟨before', after', split', isOlder⟩ := split_of_filter split
    refine ⟨before', after', split', fun p' isPosition q mem same => ?_, fun p' isPosition q mem same => ?_, nofun⟩
    · cases isPosition
      exact pickLeast_le h (mem_onCylinder.mpr ⟨mem, same⟩)
    · cases isPosition
      exact Nat.ne_of_lt (before q (isOlder ▸ mem_onCylinder.mpr ⟨mem, same⟩))

/-! ### The choice in a direction (R87, R88) -/

theorem pickAhead_none {direction : Sweep} {current : Nat} {position : Option Nat} {l : List Request} :
    pickAhead direction current position l = none ↔ ∀ q ∈ l, liesAhead direction current q.cylinder = false := by
  have empty : pickAhead direction current position l = none ↔
      (l.filter fun r => liesAhead direction current r.cylinder) = [] := by
    unfold pickAhead
    dsimp only
    split
    · next isNone => exact iff_of_true rfl (pickLeast_none.mp isNone)
    · next nearest picked =>
      refine iff_of_false (fun isNone => ?_) fun isEmpty => ?_
      · have mem : nearest ∈ ([] : List Request) := by
          rw [← pickOnCylinder_none.mp isNone]
          exact mem_onCylinder.mpr ⟨mem_of_pickLeast picked, rfl⟩
        cases mem
      · rw [isEmpty] at picked
        cases picked
  rw [empty, List.filter_eq_nil_iff]
  simp only [Bool.not_eq_true]

/-- The choice in a direction is on the nearest cylinder that way. -/
theorem pickAhead_some {direction : Sweep} {current : Nat} {position : Option Nat} {l : List Request} {r : Request}
    (h : pickAhead direction current position l = some r) :
    liesAhead direction current r.cylinder = true ∧
      (∀ q ∈ l, liesAhead direction current q.cylinder = true → cylinderDistance r.cylinder current ≤ cylinderDistance q.cylinder current) ∧
      ∃ older younger, l = older ++ r :: younger ∧ SoonestOn position older l r := by
  unfold pickAhead at h
  dsimp only at h
  split at h
  · cases h
  · next nearest picked =>
    obtain ⟨nearestMem, nearestAhead⟩ := List.mem_filter.mp (mem_of_pickLeast picked)
    have same : ((l.filter fun r => liesAhead direction current r.cylinder).filter fun r => decide (r.cylinder = nearest.cylinder)) =
        onCylinder nearest.cylinder l := by
      rw [List.filter_filter, onCylinder]
      refine List.filter_congr fun q _ => ?_
      cases test : decide (q.cylinder = nearest.cylinder) with
      | false => rfl
      | true => rw [of_decide_eq_true test, nearestAhead]; rfl
    rw [same] at h
    obtain ⟨isCylinder, place⟩ := pickOnCylinder_some h
    rw [isCylinder]
    exact ⟨nearestAhead, fun q mem ahead => pickLeast_le picked (List.mem_filter.mpr ⟨mem, ahead⟩), place⟩

theorem liesAhead_reverse (direction : Sweep) {current cylinder : Nat} (h : cylinder ≠ current) :
    liesAhead direction.reverse current cylinder = !liesAhead direction current cylinder := by
  cases direction
  · exact decide_eq_decide.mpr (by omega) |>.trans (decide_not (p := current < cylinder))
  · exact decide_eq_decide.mpr (by omega) |>.trans (decide_not (p := cylinder < current))

/-! ### The three rules (Table 5.1) -/

/-- The request chosen, by the rule that found it. -/
inductive ChosenBy (s : State) (current : Nat) (r : Request) : Prop where
  | age (aged : (readyRequests s).find? (fun q => decide (q.passCount = Config.ageLimit)) = some r)
  | here (young : ∀ q ∈ readyRequests s, q.passCount ≠ Config.ageLimit)
      (picked : pickOnCylinder s.sequencer.position (onCylinder current (readyRequests s)) = some r)
  | ahead (young : ∀ q ∈ readyRequests s, q.passCount ≠ Config.ageLimit) (away : ∀ q ∈ readyRequests s, q.cylinder ≠ current)
      (picked : pickAhead s.sweep current s.sequencer.position (readyRequests s) = some r)
  | behind (young : ∀ q ∈ readyRequests s, q.passCount ≠ Config.ageLimit) (away : ∀ q ∈ readyRequests s, q.cylinder ≠ current)
      (nobody : ∀ q ∈ readyRequests s, liesAhead s.sweep current q.cylinder = false)
      (picked : pickAhead s.sweep.reverse current s.sequencer.position (readyRequests s) = some r)

theorem nobody_onCylinder {c : Nat} {l : List Request} (h : onCylinder c l = []) : ∀ q ∈ l, q.cylinder ≠ c := fun q mem same => by
  have mem' := mem_onCylinder.mpr ⟨mem, same⟩
  rw [h] at mem'
  cases mem'

/-- With the believed cylinder known, the choice is by one of the rules, and there is none only where no request is READY. -/
theorem chooseRequest_cases {s : State} {current : Nat} (believed : s.sequencer.believed = some current) :
    (chooseRequest s = none ∧ readyRequests s = []) ∨ ∃ r, chooseRequest s = some r ∧ ChosenBy s current r := by
  unfold chooseRequest
  simp only [believed]
  split
  · next r aged => exact .inr ⟨r, rfl, .age aged⟩
  · next unaged =>
    have young : ∀ q ∈ readyRequests s, q.passCount ≠ Config.ageLimit := fun q mem =>
      of_decide_eq_false (Bool.not_eq_true _ ▸ List.find?_eq_none.mp unaged q mem)
    split
    · next r picked => exact .inr ⟨r, rfl, .here young picked⟩
    · next nobodyHere =>
      have away := nobody_onCylinder (pickOnCylinder_none.mp nobodyHere)
      split
      · next r picked => exact .inr ⟨r, rfl, .ahead young away picked⟩
      · next nobodyAhead =>
        have nobody := pickAhead_none.mp nobodyAhead
        cases picked : pickAhead s.sweep.reverse current s.sequencer.position (readyRequests s) with
        | some r => exact .inr ⟨r, rfl, .behind young away nobody picked⟩
        | none =>
          refine .inl ⟨rfl, List.eq_nil_iff_forall_not_mem.mpr fun q mem => ?_⟩
          have behind := pickAhead_none.mp picked q mem
          rw [liesAhead_reverse _ (away q mem), nobody q mem] at behind
          cases behind

theorem chooseRequest_none {s : State} {current : Nat} (believed : s.sequencer.believed = some current) :
    chooseRequest s = none ↔ readyRequests s = [] := by
  refine ⟨fun h => ?_, chooseRequest_of_none_ready⟩
  rcases chooseRequest_cases believed with ⟨_, empty⟩ | ⟨r, chosen, _⟩
  · exact empty
  · rw [h] at chosen
    cases chosen

theorem chooseRequest_chosenBy {s : State} {current : Nat} (believed : s.sequencer.believed = some current) {r : Request}
    (h : chooseRequest s = some r) : ChosenBy s current r := by
  rcases chooseRequest_cases believed with ⟨isNone, _⟩ | ⟨q, chosen, by_⟩
  · rw [h] at isNone
    cases isNone
  · rw [h] at chosen
    cases chosen
    exact by_

/-- Settles O50, by the rule that made the choice. -/
theorem schedulerChoosesByItsRules : Obligations.SchedulerChoosesByItsRules := by
  intro s current believed
  refine ⟨chooseRequest_none believed, fun r chosen => ?_⟩
  have soon : ∀ {older younger : List Request}, (∀ q ∈ readyRequests s, q.passCount ≠ 16) → readyRequests s = older ++ r :: younger →
      SoonestOn s.sequencer.position older (readyRequests s) r →
      ∃ older younger, readyRequests s = older ++ r :: younger ∧
        ((∃ q ∈ readyRequests s, q.passCount = 16) → r.passCount = 16 ∧ ∀ q ∈ older, q.passCount ≠ 16) ∧
        ((∀ q ∈ readyRequests s, q.passCount ≠ 16) →
          (∀ p, s.sequencer.position = some p → p < 12 →
            (∀ q ∈ readyRequests s, q.cylinder = r.cylinder →
              (r.first % 12 + 12 - p) % 12 ≤ (q.first % 12 + 12 - p) % 12) ∧
            ∀ q ∈ older, q.cylinder = r.cylinder →
              (r.first % 12 + 12 - p) % 12 ≠ (q.first % 12 + 12 - p) % 12) ∧
          (s.sequencer.position = none → ∀ q ∈ older, q.cylinder ≠ r.cylinder)) := fun {older younger} young place soonest =>
    ⟨older, younger, place, fun ⟨q, mem, aged⟩ => absurd aged (young q mem),
      fun _ => ⟨fun p isPosition _ => ⟨soonest.soonest p isPosition, soonest.first p isPosition⟩, soonest.oldest⟩⟩
  cases chooseRequest_chosenBy believed chosen with
  | age aged =>
    obtain ⟨isAged, older, younger, place, before⟩ := List.find?_eq_some_iff_append.mp aged
    have aged' : r.passCount = 16 := of_decide_eq_true isAged
    have contra : ¬ ∀ q ∈ readyRequests s, q.passCount ≠ 16 := fun young => young r (List.mem_of_find?_eq_some aged) aged'
    refine ⟨⟨older, younger, place, fun _ => ⟨aged', fun q mem => ?_⟩, fun young => absurd young contra⟩, fun young => absurd young contra⟩
    exact of_decide_eq_false (Bool.not_eq_true' _ ▸ before q mem)
  | here young picked =>
    obtain ⟨isHere, older, younger, place, soonest⟩ := pickOnCylinder_some picked
    exact ⟨soon young place soonest, fun _ => ⟨fun _ => isHere, fun away => absurd isHere (away r (chooseRequest_mem chosen))⟩⟩
  | ahead young away picked =>
    obtain ⟨isAhead, nearest, older, younger, place, soonest⟩ := pickAhead_some picked
    exact ⟨soon young place soonest, fun _ => ⟨fun ⟨q, mem, here⟩ => absurd here (away q mem),
      fun _ => ⟨fun _ => isAhead, fun q mem same => nearest q mem (same.trans isAhead)⟩⟩⟩
  | behind young away nobody picked =>
    obtain ⟨_, nearest, older, younger, place, soonest⟩ := pickAhead_some picked
    refine ⟨soon young place soonest, fun _ => ⟨fun ⟨q, mem, here⟩ => absurd here (away q mem),
      fun _ => ⟨fun ⟨q, mem, isAhead⟩ => ?_, fun q mem _ => nearest q mem ?_⟩⟩⟩
    · rw [nobody q mem] at isAhead
      cases isAhead
    · rw [liesAhead_reverse _ (away q mem), nobody q mem]
      rfl

end Sys2Proof.Machine
end

section
/-! The scheduler's runs at the end of an event: they leave no READY request beside an IDLE sequencer, and hand the medium to one request
at a time (chapters 5 and 6). With them what a command does to the table and the sequencer, step by step: each step keeps the one
request on the medium the one the sequencer serves. -/

namespace Sys2Proof.Machine

open Sys2Proof.Safety

/-! ### The runs come to an end (R82) -/

/-- The entries that await their turn grow fewer when one leaves them and none joins them. -/
theorem countP_map_lt {f : Request → Request} {l : List Request} (fewer : ∀ r, (f r).awaits = true → r.awaits = true) {r : Request}
    (mem : r ∈ l) (awaited : r.awaits = true) (left : (f r).awaits = false) :
    (l.map f).countP Request.awaits < l.countP Request.awaits := by
  obtain ⟨before, after, rfl⟩ := List.append_of_mem mem
  have le : ∀ m : List Request, (m.map f).countP Request.awaits ≤ m.countP Request.awaits := fun m => by
    rw [List.countP_map]
    exact List.countP_mono_left fun q _ h => fewer q h
  rw [List.map_append, List.map_cons, List.countP_append, List.countP_append, List.countP_cons_of_pos awaited,
    List.countP_cons_of_neg (by rw [left]; exact Bool.false_ne_true)]
  have := le before
  have := le after
  omega

/-- A hand-over that WRITE PROTECT ends leaves fewer entries to choose from. -/
theorem handOver_awaits {r : Request} {s : State} (ready : r ∈ readyRequests s) (h : protectedFormat r s) :
    (handOver r s).requests.countP Request.awaits < s.requests.countP Request.awaits := by
  obtain ⟨mem, isReady⟩ := mem_readyRequests.mp ready
  obtain ⟨q, found⟩ := findRequest_isSome mem
  obtain ⟨_, rests⟩ := endOnMedium_endedAs (s := sampled r s) (v := .start r) (e := .failed .writeProtected (some r.first)) rfl
    (findRequest_sampled found) rfl (fun _ => nofun) .idle
  obtain ⟨f, requests, keeps, _⟩ := (handOver_rescheduled ready).requests
  have isIndex : ({ q with state := .active none } : Request).index = r.index := (findRequest_some found).2
  have result : handOver r s = endOnMedium (.failed .writeProtected (some r.first)) .idle (sampled r s) := handOver_of_protected h
  have left := rests (f r) (by rw [← result, requests]; exact List.mem_map_of_mem mem) ((keeps r).index.trans isIndex.symm)
  rw [requests]
  refine countP_map_lt (fun u => (keeps u).awaits) mem ((awaits_iff r).mpr (.inr isReady)) (Bool.eq_false_iff.mpr fun h => ?_)
  exact ((awaits_iff _).mp h).elim left.1 left.2

theorem handOver_state {r : Request} {s : State} (h : ¬ protectedFormat r s) : serving (handOver r s).sequencer.state = true := by
  rw [handOver_of_starts h]
  show serving (startedSequencer r s.sequencer).state = true
  unfold startedSequencer
  dsimp only
  split
  · split <;> rfl
  · rfl

theorem quiet_of_serving {s : State} (h : serving s.sequencer.state = true) : Quiet s := fun idle => by
  rw [idle] at h
  cases h

theorem runScheduler_quiet (n : Nat) {s : State} (known : s.sequencer.state = .idle → s.sequencer.believed.isSome = true)
    (enough : s.requests.countP Request.awaits < n) : Quiet (runScheduler n s) := by
  induction n generalizing s with
  | zero => exact absurd enough (Nat.not_lt_zero _)
  | succ n ih =>
    unfold runScheduler
    split
    · next idle =>
      obtain ⟨current, believed⟩ := Option.isSome_iff_exists.mp (known idle)
      split
      · next nobody => exact fun _ => (chooseRequest_none believed).mp nobody
      · next r chosen =>
        have ready := chooseRequest_mem chosen
        by_cases h : protectedFormat r s
        · refine ih (fun _ => ?_) (Nat.lt_of_lt_of_le (handOver_awaits ready h) (Nat.le_of_lt_succ enough))
          rw [(handOver_kept r s).believed]
          exact known idle
        · have quiet := quiet_of_serving (handOver_state h)
          rw [runScheduler_of_quiet quiet]
          exact quiet
    · next notIdle => exact fun idle => absurd idle notIdle

/-- With the believed cylinder known, an event that settles leaves no READY request beside an IDLE sequencer. -/
theorem settle_isQuiet {s : State} (known : s.sequencer.state = .idle → s.sequencer.believed.isSome = true) : Quiet (settle s) := by
  have frame := engineRound_enginesOnly (runScheduler (s.requests.length + 1) s)
  have quiet := runScheduler_quiet _ known (Nat.lt_succ_of_le List.countP_le_length)
  intro idle
  rw [settle_eq, frame.drive.sequencer] at idle
  rw [settle_eq, readyRequests, frame.requests]
  exact quiet idle

/-! ### The sequencer's whereabouts -/

/-- The sequencer is IDLE or serves a request. -/
def InUse (state : SequencerState) : Prop := state = .idle ∨ serving state = true

/-- In IDLE and while a request is served the believed cylinder is known. -/
def Located (s : State) : Prop := InUse s.sequencer.state → s.sequencer.believed.isSome = true

theorem workConserving_iff (s : State) : WorkConserving s ↔ Located s ∧ Quiet s := Iff.rfl

/-- A change that leaves the believed cylinder, and takes the sequencer into use from a state of use only. -/
theorem located_of_state {s t : State} (h : Located s) (believed : t.sequencer.believed = s.sequencer.believed)
    (state : InUse t.sequencer.state → InUse s.sequencer.state) : Located t := fun inUse => by
  rw [believed]
  exact h (state inUse)

theorem located_of_sequencer {s t : State} (h : Located s) (sequencer : t.sequencer = s.sequencer) : Located t :=
  located_of_state h (by rw [sequencer]) (by rw [sequencer]; exact id)

theorem settle_located {s : State} (h : Located s) : Located (settle s) := fun inUse => by
  rw [(settle_kept s).believed]
  by_cases idle : s.sequencer.state = .idle
  · exact h (.inl idle)
  · have quiet := settle_quiet (s := s) fun k => absurd k idle
    rw [quiet.drive.sequencer] at inUse
    exact h inUse

theorem settle_workConserving {s : State} (h : Located s) : WorkConserving (settle s) :=
  ⟨settle_located h, settle_isQuiet fun idle => h (.inl idle)⟩

/-! ### The request the sequencer serves -/

/-- The entries on the medium, each with its state. -/
def servedPart (l : List Request) : List (Nat × RequestState) := (l.filter served).map fun r => (r.index, r.state)

/-- A stop is asked exactly as the state says. -/
def askedAs (asked : Bool) : RequestState → Prop
  | .active stop => asked = stop.isSome
  | .orphaned => asked = true
  | _ => False

/-- What the sequencer shows of its service against the entries on the medium: none on either side, or the same one. -/
inductive Agreed : Bool → Option (Nat × Bool) → List (Nat × RequestState) → Prop
  | resting : Agreed false none []
  | busy {entry : Nat} {asked : Bool} {state : RequestState} (matching : askedAs asked state) :
      Agreed true (some (entry, asked)) [(entry, state)]

/-- What a service record says of its request: its entry, and whether a stop is asked. -/
def Service.key (v : Service) : Nat × Bool := (v.entry, v.stopAsked)

/-- The two ways in which table and service record agree. -/
theorem agreed_cases {state : Bool} {service : Option Service} {l : List (Nat × RequestState)}
    (h : Agreed state (service.map Service.key) l) : (state = false ∧ service.map Service.key = none ∧ l = []) ∨
      ∃ v stands, state = true ∧ service = some v ∧ l = [(v.entry, stands)] ∧ askedAs v.stopAsked stands := by
  generalize isKey : service.map Service.key = key at h
  cases h with
  | resting => exact .inl ⟨rfl, rfl, rfl⟩
  | @busy entry asked stands matching =>
    obtain ⟨v, isService, pair⟩ := Option.map_eq_some_iff.mp isKey
    obtain ⟨isEntry, isAsked⟩ := Prod.mk.inj pair
    exact .inr ⟨v, stands, rfl, isService, by rw [isEntry], by rw [isAsked]; exact matching⟩

theorem stopMatches_iff (v : Service) (r : Request) : stopMatches v r ↔ askedAs v.stopAsked r.state := by
  unfold stopMatches askedAs
  cases r.state <;> exact Iff.rfl

theorem served_iff (r : Request) : served r = true ↔ (∃ stop, r.state = .active stop) ∨ r.state = .orphaned := by
  unfold served Request.isActive
  cases r.state <;> simp

theorem served_of_asked {asked : Bool} {r : Request} (h : askedAs asked r.state) : served r = true := by
  rw [served_iff]
  unfold askedAs at h
  split at h
  · next stop state => exact .inl ⟨stop, state⟩
  · next state => exact .inr state
  · exact h.elim

theorem mem_servedPart {l : List Request} {x : Nat × RequestState} :
    x ∈ servedPart l ↔ ∃ r ∈ l, served r = true ∧ r.index = x.1 ∧ r.state = x.2 := by
  simp only [servedPart, List.mem_map, List.mem_filter]
  constructor
  · rintro ⟨r, ⟨mem, isServed⟩, rfl⟩
    exact ⟨r, mem, isServed, rfl, rfl⟩
  · rintro ⟨r, mem, isServed, index, state⟩
    exact ⟨r, ⟨mem, isServed⟩, Prod.ext index state⟩

theorem servedPart_nil {l : List Request} : servedPart l = [] ↔ ∀ r ∈ l, served r = false := by
  simp only [servedPart, List.map_eq_nil_iff, List.filter_eq_nil_iff, Bool.not_eq_true]

/-- One request is served, exactly when the table and the service record agree. -/
theorem oneServed_iff (s : State) : OneServed s ↔ EntriesDistinct s ∧
    Agreed (serving s.sequencer.state) (s.sequencer.service.map Service.key) (servedPart s.requests) := by
  refine and_congr_right fun distinct => ?_
  have indices : (s.requests.filter served).map Request.index = (servedPart s.requests).map Prod.fst := by
    rw [servedPart, List.map_map]
    rfl
  constructor
  · rintro ⟨present, named, matching⟩
    unfold ServicePresent at present
    rw [indices] at named
    rw [← present]
    cases service : s.sequencer.service with
    | none =>
      rw [service] at named
      rw [List.map_eq_nil_iff.mp named]
      exact .resting
    | some v =>
      rw [service] at named
      obtain ⟨⟨i, state⟩, isPart, isIndex⟩ := List.map_eq_singleton_iff.mp named
      have isEntry : i = v.entry := isIndex
      subst isEntry
      obtain ⟨r, mem, _, index, isState⟩ := mem_servedPart.mp (isPart ▸ List.mem_singleton_self (v.entry, state))
      rw [isPart]
      refine .busy ?_
      have isState : r.state = state := isState
      rw [← isState]
      have index : r.index = v.entry := index
      have found := findRequest_of_mem distinct mem
      rw [index] at found
      exact (stopMatches_iff v r).mp (matching v r service found)
  · intro agreed
    unfold ServicePresent
    rw [indices]
    rcases agreed_cases agreed with ⟨isServing, key, part⟩ | ⟨v, state, isServing, service, part, matching⟩
    · have service := Option.map_eq_none_iff.mp key
      rw [isServing, service, part]
      exact ⟨rfl, rfl, fun _ _ isService => by cases isService⟩
    · rw [isServing, service, part]
      refine ⟨Option.isSome_some, List.map_singleton, fun w r isService found => ?_⟩
      cases isService
      obtain ⟨mem, index⟩ := findRequest_some found
      obtain ⟨q, mem', _, index', isState⟩ := mem_servedPart.mp (part ▸ List.mem_singleton_self (v.entry, state))
      have same := entry_unique distinct mem mem' (index.trans index'.symm)
      have isState : q.state = state := isState
      rw [stopMatches_iff, same, isState]
      exact matching

/-- A change of the table and the sequencer that neither the entries on the medium nor the service record show. -/
theorem oneServed_of_same {s t : State} (h : OneServed s) (distinct : EntriesDistinct t)
    (part : servedPart t.requests = servedPart s.requests)
    (service : t.sequencer.service.map Service.key = s.sequencer.service.map Service.key)
    (state : serving t.sequencer.state = serving s.sequencer.state) : OneServed t := by
  rw [oneServed_iff] at h ⊢
  rw [part, service, state]
  exact ⟨distinct, h.2⟩

/-- Changes of entries off the medium, and of what the entries on it hold beside their state, are not shown. -/
theorem servedPart_map {f : Request → Request} {l : List Request} (index : ∀ r ∈ l, (f r).index = r.index)
    (same : ∀ r ∈ l, (served r = true → (f r).state = r.state) ∧ (served r = false → served (f r) = false)) :
    servedPart (l.map f) = servedPart l := by
  have filtered : (l.map f).filter served = (l.filter served).map f := by
    rw [List.filter_map]
    refine congrArg _ (List.filter_congr fun r mem => ?_)
    cases isServed : served r with
    | false => exact (same r mem).2 isServed
    | true =>
      show served (f r) = true
      rw [served_iff, (same r mem).1 isServed, ← served_iff]
      exact isServed
  rw [servedPart, filtered, List.map_map]
  refine List.map_congr_left fun r mem => ?_
  obtain ⟨mem, isServed⟩ := List.mem_filter.mp mem
  exact Prod.ext (index r mem) ((same r mem).1 isServed)

theorem servedPart_filter {test : Request → Bool} {l : List Request} (kept : ∀ r ∈ l, served r = true → test r = true) :
    servedPart (l.filter test) = servedPart l := by
  rw [servedPart, List.filter_filter]
  refine congrArg _ (List.filter_congr fun r mem => ?_)
  cases isServed : served r with
  | false => rfl
  | true => rw [kept r mem isServed]; rfl

theorem loosened_served {r q : Request} (h : Loosened r q) :
    (served r = true → q.state = r.state) ∧ (served r = false → served q = false) := by
  rcases h.state with same | ⟨waiting, ready⟩
  · refine ⟨fun _ => same, fun unserved => ?_⟩
    unfold served Request.isActive at unserved ⊢
    rw [same]
    exact unserved
  · refine ⟨fun isServed => ?_, fun _ => by simp [served, Request.isActive, ready]⟩
    simp [served, Request.isActive, waiting] at isServed

/-- The entry of index `i` is off the medium. -/
def OffMedium (s : State) (i : Nat) : Prop := ∀ r, findRequest s i = some r → served r = false

theorem unserved_of_offMedium {s : State} (distinct : EntriesDistinct s) {i : Nat} (h : OffMedium s i) {r : Request} (mem : r ∈ s.requests)
    (isIndex : r.index = i) : served r = false := h r (isIndex ▸ findRequest_of_mem distinct mem)

theorem servedPart_held {s : State} (distinct : EntriesDistinct s) {i : Nat} (h : OffMedium s i) (status : Status)
    (failing : Option Nat) : servedPart (s.requests.map (heldEntry i status failing)) = servedPart s.requests := by
  refine servedPart_map (fun r _ => heldEntry_index _ _ _ r) fun r mem => ?_
  by_cases own : r.index = i
  · refine ⟨fun isServed => ?_, fun _ => by rw [heldEntry_own own]; rfl⟩
    rw [unserved_of_offMedium distinct h mem own] at isServed
    cases isServed
  · exact loosened_served (heldEntry_other own _ _)

theorem enterHeld_oneServed {s : State} {i : Nat} (off : OffMedium s i) (status : Status) (failing : Option Nat) (h : OneServed s) :
    OneServed (enterHeld i status failing s) := by
  have sequencer := (enterHeld_frame i status failing s).sequencer
  refine oneServed_of_same h (entriesDistinct_of_kept (enterHeld_kept _ _ _ s) h.1) ?_ (by rw [sequencer]) (by rw [sequencer])
  cases found : findRequest s i with
  | none => rw [enterHeld_of_none found]
  | some r => rw [enterHeld_requests found, servedPart_held h.1 off]

theorem servedPart_removed {s : State} (distinct : EntriesDistinct s) {i : Nat} (h : OffMedium s i) :
    servedPart (s.requests.filter fun r => decide (r.index ≠ i)) = servedPart s.requests :=
  servedPart_filter fun r mem isServed => decide_eq_true fun own => by
    rw [unserved_of_offMedium distinct h mem own] at isServed
    cases isServed

theorem removeRequest_oneServed {s : State} {i : Nat} (off : OffMedium s i) (h : OneServed s) : OneServed (removeRequest i s) :=
  oneServed_of_same h (entriesDistinct_of_kept (removeRequest_kept i s) h.1) (servedPart_removed h.1 off) rfl rfl

theorem servedPart_loosened (i : Nat) (l : List Request) : servedPart (l.map (Request.dropDependency i)) = servedPart l :=
  servedPart_map (fun r _ => dropDependency_index i r) fun r _ => loosened_served (dropDependency_loosened i r)

theorem freeRequest_oneServed {s : State} {i : Nat} (off : OffMedium s i) (h : OneServed s) : OneServed (freeRequest i s) := by
  have sequencer := (freeRequest_frame i s).sequencer
  refine oneServed_of_same h (entriesDistinct_of_kept (freeRequest_kept i s) h.1) ?_ (by rw [sequencer]) (by rw [sequencer])
  rw [freeRequest_requests, servedPart_loosened, servedPart_removed h.1 off]

theorem enterTable_oneServed {s : State} {i : Nat} {p : Port} {x : Transfer} (lowest : lowestFreeEntry s = some i) (h : OneServed s) :
    OneServed (s.withRequests (s.requests ++ [newRequest i p x s])) := by
  obtain ⟨small, fresh, _⟩ := lowestFreeEntry_some lowest
  have unserved : served (newRequest i p x s) = false := by
    unfold newRequest served Request.isActive
    dsimp only
    by_cases free : dependenciesOf p x s = []
    · rw [if_pos free]
      rfl
    · rw [if_neg free]
      rfl
  refine oneServed_of_same h ⟨?_, fun r mem => ?_⟩ ?_ rfl rfl
  · show ((s.requests ++ [newRequest i p x s]).map Request.index).Nodup
    rw [List.map_append]
    refine List.nodup_append'.mpr ⟨h.1.1, List.nodup_singleton _, fun j mem mem' => ?_⟩
    obtain ⟨r, hr, rfl⟩ := List.mem_map.mp mem
    exact fresh r hr (List.mem_singleton.mp mem')
  · rcases List.mem_append.mp mem with mem | mem
    · exact h.1.2 r mem
    · rw [List.mem_singleton.mp mem]
      exact small
  · show servedPart (s.requests ++ [newRequest i p x s]) = _
    simp [servedPart, List.filter_append, unserved]

/-! ### Stops and orphans -/

/-- The one entry on the medium, looked up. -/
theorem agreed_of_found {s : State} (h : OneServed s) {i : Nat} {r : Request} (found : findRequest s i = some r)
    (isServed : served r = true) : ∃ v, s.sequencer.service = some v ∧ v.entry = i ∧ serving s.sequencer.state = true ∧
      servedPart s.requests = [(i, r.state)] ∧ askedAs v.stopAsked r.state := by
  obtain ⟨mem, index⟩ := findRequest_some found
  have part : (i, r.state) ∈ servedPart s.requests := mem_servedPart.mpr ⟨r, mem, isServed, index, rfl⟩
  obtain ⟨_, agreed⟩ := (oneServed_iff s).mp h
  rcases agreed_cases agreed with ⟨_, _, isPart⟩ | ⟨v, state, isServing, service, isPart, matching⟩
  · rw [isPart] at part
    cases part
  · rw [isPart] at part
    obtain ⟨isEntry, isState⟩ := Prod.mk.inj (List.mem_singleton.mp part)
    rw [← isEntry, ← isState] at isPart
    exact ⟨v, service, isEntry.symm, isServing, isPart, isState ▸ matching⟩

/-- A change of state of the one entry on the medium that keeps it there, shown in the service record too. -/
theorem oneServed_of_changed {s t : State} (h : OneServed s) {i : Nat} {r : Request} (found : findRequest s i = some r)
    (isServed : served r = true) {state : RequestState} (matching : askedAs true state)
    (requests : t.requests = s.requests.map fun q => if q.index = i then { q with state := state } else q)
    (service : t.sequencer.service.map Service.key = s.sequencer.service.map fun v => (v.entry, true))
    (sequencer : t.sequencer.state = s.sequencer.state) : OneServed t := by
  obtain ⟨v, isService, isEntry, inService, part, _⟩ := agreed_of_found h found isServed
  have index : ∀ q : Request, (if q.index = i then { q with state := state } else q).index = q.index := fun q => by split <;> rfl
  have distinct : EntriesDistinct t := entriesDistinct_of_sublist (by
    rw [requests, List.map_map]
    exact sublist_of_eq (List.map_congr_left fun q _ => index q)) h.1
  refine (oneServed_iff t).mpr ⟨distinct, ?_⟩
  have part' : servedPart t.requests = [(i, state)] := by
    have filtered : (s.requests.map fun q => if q.index = i then { q with state := state } else q).filter served =
        (s.requests.filter served).map fun q => if q.index = i then { q with state := state } else q := by
      rw [List.filter_map]
      refine congrArg _ (List.filter_congr fun q mem => ?_)
      by_cases own : q.index = i
      · have same := entry_unique h.1 mem (findRequest_some found).1 (own.trans (findRequest_some found).2.symm)
        rw [Function.comp, if_pos own, same, isServed]
        exact served_of_asked (asked := true) matching
      · simp only [Function.comp, if_neg own]
    have moved : ∀ l : List Request, (l.map fun r => (r.index, r.state)) = [(i, r.state)] →
        ((l.map fun q => if q.index = i then { q with state := state } else q).map fun r => (r.index, r.state)) = [(i, state)] :=
      fun l single => by
        obtain ⟨q, rfl, pair⟩ := List.map_eq_singleton_iff.mp single
        have own : q.index = i := congrArg Prod.fst pair
        simp only [List.map_cons, List.map_nil, if_pos own]
        rw [own]
    rw [requests, servedPart, filtered]
    exact moved _ part
  rw [part', sequencer, inService, service, isService, Option.map_some, isEntry]
  exact .busy matching

theorem markStop_oneServed {s : State} {i : Nat} {r : Request} (found : findRequest s i = some r) (state : r.state = .active none)
    (reason : Status) (h : OneServed s) : OneServed (markStop i reason s) := by
  refine oneServed_of_changed h found ((served_iff r).mpr (.inl ⟨_, state⟩)) (state := .active (some reason)) rfl rfl ?_ rfl
  show (s.sequencer.service.map _).map Service.key = _
  rw [Option.map_map]
  rfl

/-- An ACTIVE request becomes ORPHANED, before its stop is taken (R76). -/
def markOrphan (i : Nat) (s : State) : State :=
  modifyService (fun v => { v with orphan := true, stopAsked := true })
    (freeBuffers (fun b => decide (b.entry = i) && !b.servesMedium) (updateRequest i (fun r => { r with state := .orphaned }) s))

theorem orphanRequest_eq (i : Nat) (s : State) : orphanRequest i s = takeStop (markOrphan i s) := rfl

theorem markOrphan_oneServed {s : State} {i : Nat} {r : Request} (found : findRequest s i = some r) (isServed : served r = true)
    (h : OneServed s) : OneServed (markOrphan i s) := by
  refine oneServed_of_changed h found isServed (state := .orphaned) rfl rfl ?_ rfl
  show (s.sequencer.service.map _).map Service.key = _
  rw [Option.map_map]
  rfl

/-! ### The end of a request's time on the medium -/

theorem enterHeld_unserved {s : State} {i : Nat} (others : ∀ q ∈ s.requests, q.index ≠ i → served q = false) {r : Request}
    (found : findRequest s i = some r) (status : Status) (failing : Option Nat) :
    ∀ q ∈ (enterHeld i status failing s).requests, served q = false := fun q mem => by
  rw [enterHeld_requests found] at mem
  obtain ⟨u, hu, rfl⟩ := List.mem_map.mp mem
  by_cases own : u.index = i
  · rw [heldEntry_own own]
    rfl
  · exact (loosened_served (heldEntry_other own _ _)).2 (others u hu own)

theorem endActive_unserved {s : State} {r : Request} (found : findRequest s r.index = some r)
    (others : ∀ q ∈ s.requests, q.index ≠ r.index → served q = false) (v : Service) (status : Status) (failing : Option Nat) :
    ∀ q ∈ (endActive r v status failing s).requests, served q = false := fun q mem => by
  rcases endActive_cases r v status failing s with ⟨_, _, result⟩ | ⟨_, result⟩
  · rw [result, draining_requests] at mem
    obtain ⟨u, hu, rfl⟩ := List.mem_map.mp mem
    refine (loosened_served (dropDependency_loosened _ _)).2 ?_
    split
    · rfl
    · next apart => exact others u hu apart
  · rw [result, makeWriteReport_requests] at mem
    exact enterHeld_unserved others found status failing q mem

/-- An end that can be told leaves no entry on the medium. -/
theorem applyEnd_unserved {s : State} {r : Request} {e : MediumEnd} (found : findRequest s r.index = some r) (isServed : served r = true)
    (tellable : e.tellable r) (others : ∀ q ∈ s.requests, q.index ≠ r.index → served q = false) (v : Service) :
    ∀ q ∈ (applyEnd r v e s).requests, served q = false := by
  unfold applyEnd
  split
  · intro q mem
    obtain ⟨apart, u, hu, loosened⟩ := mem_freeRequest mem
    exact (loosened_served loosened).2 (others u hu (loosened_index loosened ▸ apart))
  · rw [makeWriteReport_requests]
    exact enterHeld_unserved others found _ _
  · next state =>
    cases e with
    | finished => exact endActive_unserved found others v _ _
    | failed status failing => exact endActive_unserved found others v _ _
    | stopped => exact absurd rfl (tellable state)
  · next notOrphaned notStopped notActive =>
    rcases (served_iff r).mp isServed with ⟨stop, state⟩ | state
    · cases stop with
      | none => exact absurd state notActive
      | some reason => exact absurd state (notStopped reason)
    · exact absurd state notOrphaned

/-- The end of the sequencer's work leaves no request on the medium. -/
theorem endOnMedium_oneServed {s : State} (h : OneServed s) {e : MediumEnd} {next : SequencerState} (resting : serving next = false)
    (asked : e = .stopped → ∀ v, s.sequencer.service = some v → v.stopAsked = true) : OneServed (endOnMedium e next s) := by
  cases service : s.sequencer.service with
  | none =>
    simp only [endOnMedium, service]
    exact h
  | some v =>
    obtain ⟨distinct, agreed⟩ := (oneServed_iff s).mp h
    have distinct' := entriesDistinct_of_kept (endOnMedium_kept e next s) distinct
    obtain ⟨state, isPart, matching⟩ : ∃ state, servedPart s.requests = [(v.entry, state)] ∧ askedAs v.stopAsked state := by
      rcases agreed_cases agreed with ⟨_, key, _⟩ | ⟨w, state, _, isService, isPart, matching⟩
      · rw [service] at key
        cases key
      · rw [service] at isService
        cases isService
        exact ⟨state, isPart, matching⟩
    obtain ⟨r, mem, isServed, index, isState⟩ := mem_servedPart.mp (isPart ▸ List.mem_singleton_self (v.entry, state))
    have isState : r.state = state := isState
    have index : r.index = v.entry := index
    have found := findRequest_of_mem distinct mem
    rw [index] at found
    have others : ∀ q ∈ s.requests, q.index ≠ r.index → served q = false := fun q hq apart => by
      cases isServed' : served q with
      | false => rfl
      | true =>
        have part : (q.index, q.state) ∈ servedPart s.requests := mem_servedPart.mpr ⟨q, hq, isServed', rfl, rfl⟩
        rw [isPart] at part
        exact absurd ((congrArg Prod.fst (List.mem_singleton.mp part)).trans index.symm) apart
    have tellable : e.tellable r := fun active isStopped => by
      rw [← isState, active] at matching
      exact absurd ((asked isStopped v service).symm.trans matching) nofun
    have unserved : ∀ q ∈ (endOnMedium e next s).requests, served q = false := by
      rw [endOnMedium_eq service found]
      refine applyEnd_unserved (r := raisedEntry (e.retries v) r) (findRequest_raised found index _ _) isServed tellable
        (fun q hq apart => ?_) v
      obtain ⟨u, hu, rfl⟩ := List.mem_map.mp hq
      split at apart
      · next own => exact absurd (own.trans index.symm) apart
      · next other =>
        rw [if_neg other]
        exact others u hu apart
    refine (oneServed_iff _).mpr ⟨distinct', ?_⟩
    rw [servedPart_nil.mpr unserved, (endOnMedium_frame service e next).1]
    show Agreed (serving next) none []
    rw [resting]
    exact .resting

/-! ### The hand-over -/

/-- The request handed over is the one on the medium. -/
theorem oneServed_of_activated {s t : State} (h : OneServed s) (idle : s.sequencer.state = .idle) {r : Request} (mem : r ∈ s.requests)
    (requests : t.requests = s.requests.map (activatedEntry r.index)) (service : t.sequencer.service = some (.start r))
    (inService : serving t.sequencer.state = true) : OneServed t := by
  obtain ⟨distinct, agreed⟩ := (oneServed_iff s).mp h
  have unserved : ∀ q ∈ s.requests, served q = false := by
    rcases agreed_cases agreed with ⟨_, _, isPart⟩ | ⟨_, _, isServing, _⟩
    · exact servedPart_nil.mp isPart
    · rw [idle] at isServing
      cases isServing
  have index : ∀ q : Request, (activatedEntry r.index q).index = q.index := fun q => (activatedEntry_same r.index q).index
  have distinct' : EntriesDistinct t := entriesDistinct_of_sublist (by
    rw [requests, List.map_map]
    exact sublist_of_eq (List.map_congr_left fun q _ => index q)) distinct
  have part : servedPart t.requests = [(r.index, .active none)] := by
    obtain ⟨before, after, isSplit⟩ := List.append_of_mem mem
    have apart : ∀ q, q ∈ before ∨ q ∈ after → q.index ≠ r.index := fun q side same => by
      have nodup := distinct.1
      rw [isSplit, List.map_append, List.map_cons] at nodup
      obtain ⟨_, nodup', disjoint⟩ := List.nodup_append'.mp nodup
      rcases side with side | side
      · exact disjoint (List.mem_map_of_mem side) (same ▸ List.mem_cons_self)
      · exact (List.nodup_cons.mp nodup').1 (same ▸ List.mem_map_of_mem side)
    have off : ∀ m : List Request, (∀ q ∈ m, q ∈ s.requests ∧ q.index ≠ r.index) →
        servedPart (m.map (activatedEntry r.index)) = [] := fun m hm => servedPart_nil.mpr fun u hu => by
      obtain ⟨q, hq, rfl⟩ := List.mem_map.mp hu
      obtain ⟨mem', apart'⟩ := hm q hq
      have same := activatedEntry_other (i := r.index) apart'
      have := unserved q mem'
      unfold served Request.isActive at this ⊢
      rw [same]
      exact this
    have own : activatedEntry r.index r = { r with state := .active none } := by rw [activatedEntry, if_pos rfl]
    have split : servedPart t.requests = servedPart (before.map (activatedEntry r.index)) ++
        (r.index, .active none) :: servedPart (after.map (activatedEntry r.index)) := by
      rw [requests, isSplit, List.map_append, List.map_cons, own, servedPart, List.filter_append, List.map_append,
        List.filter_cons_of_pos rfl]
      rfl
    rw [split, off before fun q hq => ⟨isSplit ▸ List.mem_append_left _ hq, apart q (.inl hq)⟩,
      off after fun q hq => ⟨isSplit ▸ List.mem_append_right _ (List.mem_cons_of_mem _ hq), apart q (.inr hq)⟩]
    rfl
  refine (oneServed_iff t).mpr ⟨distinct', ?_⟩
  rw [part, service, inService]
  exact .busy rfl

theorem handOver_oneServed {s : State} {r : Request} (h : OneServed s) (idle : s.sequencer.state = .idle) (mem : r ∈ s.requests) :
    OneServed (handOver r s) := by
  by_cases isProtected : protectedFormat r s
  · rw [handOver_of_protected isProtected]
    exact endOnMedium_oneServed (oneServed_of_activated h idle mem (sampled_requests r s) rfl rfl) rfl nofun
  · refine oneServed_of_activated h idle mem ?_ ?_ (handOver_state isProtected)
    · rw [handOver_of_starts isProtected]
      exact handedOver_requests r s
    · rw [handOver_of_starts isProtected]
      rfl

theorem oneServed_of_frame {s t : State} (h : OneServed s) (requests : t.requests = s.requests) (sequencer : t.sequencer = s.sequencer) :
    OneServed t := by
  refine oneServed_of_same h ?_ (by rw [requests]) (by rw [sequencer]) (by rw [sequencer])
  unfold EntriesDistinct
  rw [requests]
  exact h.1

theorem runScheduler_oneServed (n : Nat) {s : State} (h : OneServed s) : OneServed (runScheduler n s) := by
  induction n generalizing s with
  | zero => exact h
  | succ n ih =>
    unfold runScheduler
    split
    · next idle =>
      split
      · exact h
      · next r chosen => exact ih (handOver_oneServed h idle (mem_readyRequests.mp (chooseRequest_mem chosen)).1)
    · exact h

theorem settle_oneServed {s : State} (h : OneServed s) : OneServed (settle s) := by
  have frame := engineRound_enginesOnly (runScheduler (s.requests.length + 1) s)
  exact oneServed_of_frame (runScheduler_oneServed _ h) frame.requests frame.drive.sequencer

end Sys2Proof.Machine
end

section
/-! The lock-cessation report in the Request Table, entry by entry, and the stop it asks (R73, Table 4.3). -/

namespace Sys2Proof.Machine

open Sys2Proof.Safety

/-- A request of the lock's owner with a block inside. -/
def Inside (owner : Port) (extent : Extent) (r : Request) : Prop := r.port = owner ∧ r.extent.overlaps extent = true

/-- The turn of one entry: HELD with LOCK LOST, a stop asked of it, or nothing. -/
theorem cessationOf_cases (owner : Port) (extent : Extent) (s : State) (i : Nat) :
    (∃ r, findRequest s i = some r ∧ Inside owner extent r ∧ (r.state = .waiting ∨ r.state = .ready) ∧
        cessationOf owner extent s i = enterHeld i .lockLost none s) ∨
      (∃ r, findRequest s i = some r ∧ Inside owner extent r ∧ r.state = .active none ∧
        cessationOf owner extent s i = markStop i .lockLost s) ∨
      (cessationOf owner extent s i = s ∧ ∀ r, findRequest s i = some r → Inside owner extent r →
        r.state ≠ .waiting ∧ r.state ≠ .ready ∧ r.state ≠ .active none) := by
  unfold cessationOf
  split
  · next isNone => exact .inr (.inr ⟨rfl, fun r h => absurd (isNone.symm.trans h) nofun⟩)
  · next r found =>
    split
    · next inside =>
      split
      · next state => exact .inl ⟨r, found, inside, .inl state, rfl⟩
      · next state => exact .inl ⟨r, found, inside, .inr state, rfl⟩
      · next state => exact .inr (.inl ⟨r, found, inside, state, rfl⟩)
      · next notWaiting notReady notActive =>
        refine .inr (.inr ⟨rfl, fun q h _ => ?_⟩)
        rw [found] at h
        cases h
        exact ⟨notWaiting, notReady, notActive⟩
    · next outside =>
      refine .inr (.inr ⟨rfl, fun q h inside => ?_⟩)
      rw [found] at h
      cases h
      exact absurd inside outside

theorem mem_markStop_other {s : State} {i : Nat} {q : Request} (mem : q ∈ s.requests) (other : q.index ≠ i) (reason : Status) :
    q ∈ (markStop i reason s).requests :=
  List.mem_map.mpr ⟨q, mem, if_neg other⟩

/-- The turn of another entry loosens an entry at most. -/
theorem cessationOf_other {owner : Port} {extent : Extent} {s : State} {i : Nat} {q : Request} (mem : q ∈ s.requests)
    (other : q.index ≠ i) : ∃ u ∈ (cessationOf owner extent s i).requests, Loosened q u := by
  rcases cessationOf_cases owner extent s i with ⟨_, found, _, _, held⟩ | ⟨_, _, _, _, stopped⟩ | ⟨same, _⟩
  · rw [held, enterHeld_requests found]
    exact ⟨_, List.mem_map_of_mem mem, heldEntry_other other _ _⟩
  · rw [stopped]
    exact ⟨q, mem_markStop_other mem other _, loosened_refl q⟩
  · rw [same]
    exact ⟨q, mem, loosened_refl q⟩

theorem inside_of_loosened {owner : Port} {extent : Extent} {r q : Request} (h : Loosened r q) (inside : Inside owner extent r) :
    Inside owner extent q := by
  rw [h.same]
  exact inside

theorem cessationOf_distinct {owner : Port} {extent : Extent} {s : State} (i : Nat) (distinct : EntriesDistinct s) :
    EntriesDistinct (cessationOf owner extent s i) := entriesDistinct_of_kept (cessationOf_kept _ _ s i) distinct

/-- An entry that the report does not concern stands as it was. -/
theorem cessation_keeps {owner : Port} {extent : Extent} (l : List Nat) {s : State} (distinct : EntriesDistinct s) {q : Request}
    (mem : q ∈ s.requests) (past : q.state ≠ .waiting ∧ q.state ≠ .ready ∧ q.state ≠ .active none) :
    ∃ u ∈ (l.foldl (cessationOf owner extent) s).requests, SameEntry q u ∧ u.state = q.state := by
  induction l generalizing s q with
  | nil => exact ⟨q, mem, sameEntry_refl q, rfl⟩
  | cons i l ih =>
    obtain ⟨u, hu, same, state⟩ : ∃ u ∈ (cessationOf owner extent s i).requests, SameEntry q u ∧ u.state = q.state := by
      by_cases own : q.index = i
      · have found := findRequest_of_mem distinct mem
        rw [own] at found
        rcases cessationOf_cases owner extent s i with ⟨r, h, _, state, _⟩ | ⟨r, h, _, state, _⟩ | ⟨unchanged, _⟩
        · rw [found] at h
          cases h
          exact absurd state fun k => k.elim past.1 past.2.1
        · rw [found] at h
          cases h
          exact absurd state past.2.2
        · rw [unchanged]
          exact ⟨q, mem, sameEntry_refl q, rfl⟩
      · obtain ⟨u, hu, loosened⟩ := cessationOf_other (owner := owner) (extent := extent) mem own
        exact ⟨u, hu, sameEntry_of_loosened loosened, loosened_state loosened past.1⟩
    obtain ⟨w, hw, same', state'⟩ := ih (cessationOf_distinct i distinct) hu (by rw [state]; exact past)
    exact ⟨w, hw, sameEntry_trans same same', state'.trans state⟩

/-- A WAITING or READY request inside is HELD with LOCK LOST. -/
theorem cessation_held {owner : Port} {extent : Extent} (l : List Nat) {s : State} (distinct : EntriesDistinct s) {r : Request}
    (mem : r ∈ s.requests) (inside : Inside owner extent r) (state : r.state = .waiting ∨ r.state = .ready) (turn : r.index ∈ l) :
    HeldWith (l.foldl (cessationOf owner extent) s) r .lockLost none 0 := by
  induction l generalizing s r with
  | nil => cases turn
  | cons i l ih =>
    rw [List.foldl_cons]
    have found := findRequest_of_mem distinct mem
    by_cases own : r.index = i
    · subst own
      rcases cessationOf_cases owner extent s r.index with ⟨_, _, _, _, held⟩ | ⟨q, h, _, active, _⟩ | ⟨_, neither⟩
      · have distinct' := cessationOf_distinct (owner := owner) (extent := extent) r.index distinct
        have pending := (foldl_kept _ (cessationOf_kept owner extent) l (cessationOf owner extent s r.index)).pendingRecords
        rw [held] at distinct' pending ⊢
        obtain ⟨⟨q, hq, index, port, tag, isHeld, done, count, retries⟩, waits⟩ := enterHeld_heldWith found .lockLost none
        obtain ⟨u, hu, same, state'⟩ := cessation_keeps l distinct' hq (by rw [isHeld]; exact ⟨nofun, nofun, nofun⟩)
        exact ⟨⟨u, hu, same.index.trans index, same.port.trans port, same.tag.trans tag, state'.trans isHeld, same.blocksDone.trans done,
          same.mediumCount.trans count, same.retriesUsed.trans retries⟩, pending _ _ waits⟩
      · rw [found] at h
        cases h
        rw [active] at state
        rcases state with state | state <;> cases state
      · exact absurd state fun k => k.elim (neither r found inside).1 (neither r found inside).2.1
    · obtain ⟨u, hu, loosened⟩ := cessationOf_other (owner := owner) (extent := extent) mem own
      have state' : u.state = .waiting ∨ u.state = .ready := by
        rcases loosened.state with same | ⟨_, ready⟩
        · rw [same]
          exact state
        · exact .inr ready
      have held := ih (cessationOf_distinct i distinct) hu (inside_of_loosened loosened inside) state'
        (loosened_index loosened ▸ (List.mem_cons.mp turn).resolve_left own)
      have same := sameEntry_of_loosened loosened
      unfold HeldWith at held ⊢
      rw [same.index, same.port, same.tag, same.blocksDone, same.mediumCount, same.retriesUsed] at held
      exact held

/-! ### The stop a report asks -/

/-- The service record, if any, with a stop asked. -/
def askedService (s : State) : Sequencer := { s.sequencer with service := s.sequencer.service.map fun v => { v with stopAsked := true } }

/-- A stop is asked in the service record, if any. -/
def StopIsAsked (s : State) : Prop := ∀ v, s.sequencer.service = some v → v.stopAsked = true

theorem stopIsAsked_of_asked {s t : State} (h : t.sequencer = askedService s) : StopIsAsked t := fun v service => by
  rw [h] at service
  obtain ⟨w, _, rfl⟩ := Option.map_eq_some_iff.mp service
  rfl

theorem markStop_sequencer (i : Nat) (reason : Status) (s : State) : (markStop i reason s).sequencer = askedService s := rfl

theorem askedService_idem {s t : State} (h : t.sequencer = askedService s) : askedService t = askedService s := by
  unfold askedService
  rw [h]
  unfold askedService
  dsimp only
  rw [Option.map_map]
  rfl

theorem cessationOf_sequencer (owner : Port) (extent : Extent) (s : State) (i : Nat) :
    ((cessationOf owner extent s i).sequencer = s.sequencer ∨ (cessationOf owner extent s i).sequencer = askedService s) ∧
      (cessationOf owner extent s i).drive = s.drive := by
  rcases cessationOf_cases owner extent s i with ⟨_, _, _, _, held⟩ | ⟨_, _, _, _, stopped⟩ | ⟨same, _⟩
  · have frame := enterHeld_frame i .lockLost none s
    rw [held]
    exact ⟨.inl frame.sequencer, frame.drive⟩
  · rw [stopped]
    exact ⟨.inr rfl, rfl⟩
  · rw [same]
    exact ⟨.inl rfl, rfl⟩

/-- The report changes nothing of the sequencer but that it may ask a stop. -/
theorem cessation_sequencer (owner : Port) (extent : Extent) (l : List Nat) (s : State) :
    ((l.foldl (cessationOf owner extent) s).sequencer = s.sequencer ∨
        (l.foldl (cessationOf owner extent) s).sequencer = askedService s) ∧
      (l.foldl (cessationOf owner extent) s).drive = s.drive := by
  induction l generalizing s with
  | nil => exact ⟨.inl rfl, rfl⟩
  | cons i l ih =>
    obtain ⟨turn, drive⟩ := cessationOf_sequencer owner extent s i
    obtain ⟨rest, drive'⟩ := ih (cessationOf owner extent s i)
    refine ⟨?_, drive'.trans drive⟩
    rcases turn with turn | turn
    · rcases rest with rest | rest
      · exact .inl (rest.trans turn)
      · refine .inr (rest.trans ?_)
        unfold askedService
        rw [turn]
    · refine .inr ?_
      rcases rest with rest | rest
      · exact rest.trans turn
      · exact rest.trans (askedService_idem turn)

/-- A stop asked stays asked. -/
theorem cessation_stays_asked {owner : Port} {extent : Extent} (l : List Nat) {s : State} (h : StopIsAsked s) :
    StopIsAsked (l.foldl (cessationOf owner extent) s) := by
  rcases (cessation_sequencer owner extent l s).1 with same | asked
  · unfold StopIsAsked
    rw [same]
    exact h
  · exact stopIsAsked_of_asked asked

/-- The ACTIVE request inside with no stop pending is marked to stop, and the sequencer told. -/
theorem cessation_stopped {owner : Port} {extent : Extent} (l : List Nat) {s : State} (distinct : EntriesDistinct s) {r : Request}
    (mem : r ∈ s.requests) (inside : Inside owner extent r) (state : r.state = .active none) (turn : r.index ∈ l) :
    (∃ u ∈ (l.foldl (cessationOf owner extent) s).requests, SameEntry r u ∧ u.state = .active (some .lockLost)) ∧
      StopIsAsked (l.foldl (cessationOf owner extent) s) := by
  induction l generalizing s r with
  | nil => cases turn
  | cons i l ih =>
    rw [List.foldl_cons]
    have found := findRequest_of_mem distinct mem
    by_cases own : r.index = i
    · subst own
      rcases cessationOf_cases owner extent s r.index with ⟨q, h, _, awaits, _⟩ | ⟨_, _, _, _, stopped⟩ | ⟨_, neither⟩
      · rw [found] at h
        cases h
        rw [state] at awaits
        rcases awaits with awaits | awaits <;> cases awaits
      · have distinct' := cessationOf_distinct (owner := owner) (extent := extent) r.index distinct
        rw [stopped] at distinct' ⊢
        have marked : ({ r with state := .active (some .lockLost) } : Request) ∈ (markStop r.index .lockLost s).requests :=
          (findRequest_some (findRequest_markStop found .lockLost)).1
        obtain ⟨u, hu, same, state'⟩ := cessation_keeps (owner := owner) (extent := extent) l distinct' marked ⟨nofun, nofun, nofun⟩
        exact ⟨⟨u, hu, sameEntry_trans (sameEntry_state (state := .active (some .lockLost)) ⟨nofun, nofun⟩ r.dependencies r) same, state'⟩,
          cessation_stays_asked l (stopIsAsked_of_asked (markStop_sequencer _ _ s))⟩
      · exact absurd state (neither r found inside).2.2
    · obtain ⟨u, hu, loosened⟩ := cessationOf_other (owner := owner) (extent := extent) mem own
      have state' : u.state = .active none := (loosened_state loosened (by rw [state]; exact nofun)).trans state
      obtain ⟨⟨w, hw, same, isState⟩, asked⟩ := ih (cessationOf_distinct i distinct) hu (inside_of_loosened loosened inside) state'
        (loosened_index loosened ▸ (List.mem_cons.mp turn).resolve_left own)
      exact ⟨⟨w, hw, sameEntry_trans (sameEntry_of_loosened loosened) same, isState⟩, asked⟩

theorem cessationStops_iff {owner : Port} {extent : Extent} {s : State} :
    cessationStops owner extent s = true ↔ ∃ r ∈ s.requests, Inside owner extent r ∧ r.state = .active none := by
  simp only [cessationStops, List.any_eq_true, Bool.and_eq_true, decide_eq_true_eq, Inside]
  constructor
  · rintro ⟨r, mem, ⟨port, state⟩, overlaps⟩
    exact ⟨r, mem, ⟨port, overlaps⟩, state⟩
  · rintro ⟨r, mem, ⟨port, overlaps⟩, state⟩
    exact ⟨r, mem, ⟨port, state⟩, overlaps⟩

/-- A report that asks a stop has it asked of the sequencer. -/
theorem lockCessation_asked {owner : Port} {extent : Extent} {s : State} (distinct : EntriesDistinct s)
    (stops : cessationStops owner extent s = true) : StopIsAsked (lockCessation owner extent s) := by
  obtain ⟨r, mem, inside, state⟩ := cessationStops_iff.mp stops
  exact (cessation_stopped _ distinct mem inside state (List.mem_map_of_mem mem)).2

/-- A report that finds no ACTIVE request to stop leaves the sequencer. -/
theorem cessation_unasked {owner : Port} {extent : Extent} (l : List Nat) {s : State} (stops : cessationStops owner extent s = false) :
    (l.foldl (cessationOf owner extent) s).sequencer = s.sequencer := by
  induction l generalizing s with
  | nil => rfl
  | cons i l ih =>
    have nobody : ∀ r ∈ s.requests, Inside owner extent r → r.state ≠ .active none := fun r mem inside state => by
      rw [cessationStops_iff.mpr ⟨r, mem, inside, state⟩] at stops
      cases stops
    rw [List.foldl_cons]
    rcases cessationOf_cases owner extent s i with ⟨r, found, _, _, held⟩ | ⟨r, found, inside, state, _⟩ | ⟨same, _⟩
    · rw [held, ih, (enterHeld_frame i .lockLost none s).sequencer]
      refine Bool.eq_false_iff.mpr fun stops' => ?_
      obtain ⟨u, mem, inside, state⟩ := cessationStops_iff.mp stops'
      rw [enterHeld_requests found] at mem
      obtain ⟨q, hq, rfl⟩ := List.mem_map.mp mem
      by_cases own : q.index = i
      · rw [heldEntry_own own] at state
        cases state
      · have loosened := heldEntry_other own .lockLost none
        have inside' : Inside owner extent q := by
          have := inside
          rw [loosened.same] at this
          exact this
        rcases loosened.state with same | ⟨_, ready⟩
        · exact nobody q hq inside' (same.symm.trans state)
        · rw [ready] at state
          cases state
    · exact absurd state (nobody r (findRequest_some found).1 inside)
    · rw [same]
      exact ih stops

end Sys2Proof.Machine
end

section
/-! What every command does to the Request Table and the sequencer, as a path of steps, each of which keeps one request on the medium, the
one the sequencer serves, and the believed cylinder known in use (chapters 4 and 6). -/

namespace Sys2Proof.Machine

open Sys2Proof.Safety

-- The case splits over every command are checked one after another: all at once they take more threads than the check allows.
set_option Elab.async false

/-! ### The steps -/

/-- One step of the work in progress, as the Request Table and the sequencer show it. That a stop taken was asked is said for tables whose
entries are distinct (`distinct`). -/
inductive WorkStep (distinct : Prop) : State → State → Prop
  | frame {s t : State} (requests : t.requests = s.requests) (sequencer : t.sequencer = s.sequencer) : WorkStep distinct s t
  | progress {s t : State} (f : Request → Request) (index : ∀ r, (f r).index = r.index) (state : ∀ r, (f r).state = r.state)
      (requests : t.requests = s.requests.map f) (sequencer : t.sequencer = s.sequencer) : WorkStep distinct s t
  | held {s : State} {i : Nat} (status : Status) (failing : Option Nat) (off : distinct → OffMedium s i) :
      WorkStep distinct s (enterHeld i status failing s)
  | freed {s : State} {i : Nat} (off : distinct → OffMedium s i) : WorkStep distinct s (freeRequest i s)
  | posted {s : State} {i : Nat} (off : distinct → OffMedium s i) : WorkStep distinct s (removeRequest i s)
  | entered {s : State} {i : Nat} {p : Port} {x : Transfer} (lowest : lowestFreeEntry s = some i) :
      WorkStep distinct s (s.withRequests (s.requests ++ [newRequest i p x s]))
  | stopMarked {s : State} {i : Nat} {r : Request} (found : findRequest s i = some r) (active : r.state = .active none)
      (reason : Status) : WorkStep distinct s (markStop i reason s)
  | orphaned {s : State} {i : Nat} {r : Request} (found : findRequest s i = some r) (isServed : served r = true) :
      WorkStep distinct s (markOrphan i s)
  | ended {s : State} {e : MediumEnd} {next : SequencerState} (resting : serving next = false)
      (reach : next = .idle → InUse s.sequencer.state) (asked : distinct → e = .stopped → StopIsAsked s) :
      WorkStep distinct s (endOnMedium e next s)
  | moved {s t : State} (requests : t.requests = s.requests)
      (state : ServicePresent s → serving t.sequencer.state = serving s.sequencer.state)
      (service : t.sequencer.service.map Service.key = s.sequencer.service.map Service.key)
      (located : Located s → Located t) : WorkStep distinct s t
  | reset {s t : State} (requests : t.requests = []) (service : t.sequencer.service = none)
      (state : ¬ InUse t.sequencer.state) : WorkStep distinct s t

theorem entriesDistinct_congr {s t : State} (requests : t.requests = s.requests) (h : EntriesDistinct s) : EntriesDistinct t := by
  unfold EntriesDistinct
  rw [requests]
  exact h

theorem oneServed_of_progress {s t : State} (h : OneServed s) {f : Request → Request} (index : ∀ r, (f r).index = r.index)
    (state : ∀ r, (f r).state = r.state) (requests : t.requests = s.requests.map f) (sequencer : t.sequencer = s.sequencer) :
    OneServed t := by
  refine oneServed_of_same h (entriesDistinct_of_sublist ?_ h.1) ?_ (by rw [sequencer]) (by rw [sequencer])
  · rw [requests, List.map_map]
    exact sublist_of_eq (List.map_congr_left fun r _ => index r)
  · rw [requests]
    refine servedPart_map (fun r _ => index r) fun r _ => ⟨fun _ => state r, fun unserved => ?_⟩
    unfold served Request.isActive at unserved ⊢
    rw [state]
    exact unserved

theorem WorkStep.oneServed {distinct : Prop} {s t : State} (step : WorkStep distinct s t) (isDistinct : distinct) (h : OneServed s) :
    OneServed t := by
  cases step with
  | frame requests sequencer => exact oneServed_of_frame h requests sequencer
  | progress f index state requests sequencer => exact oneServed_of_progress h index state requests sequencer
  | held status failing off => exact enterHeld_oneServed (off isDistinct) status failing h
  | freed off => exact freeRequest_oneServed (off isDistinct) h
  | posted off => exact removeRequest_oneServed (off isDistinct) h
  | entered lowest => exact enterTable_oneServed lowest h
  | stopMarked found active reason => exact markStop_oneServed found active reason h
  | orphaned found isServed => exact markOrphan_oneServed found isServed h
  | ended resting reach asked => exact endOnMedium_oneServed h resting (asked isDistinct)
  | moved requests state service located =>
    exact oneServed_of_same h (entriesDistinct_congr requests h.1) (by rw [requests]) service (state h.2.1)
  | reset requests service state =>
    refine (oneServed_iff t).mpr ⟨?_, ?_⟩
    · unfold EntriesDistinct
      rw [requests]
      exact ⟨List.nodup_nil, nofun⟩
    · rw [requests, service, Bool.eq_false_iff.mpr fun inService => state (.inr inService)]
      exact .resting

theorem endOnMedium_located {s : State} {e : MediumEnd} {next : SequencerState} (resting : serving next = false)
    (reach : next = .idle → InUse s.sequencer.state) (h : Located s) : Located (endOnMedium e next s) := by
  cases service : s.sequencer.service with
  | none =>
    simp only [endOnMedium, service]
    exact h
  | some v =>
    refine located_of_state h (endOnMedium_kept e next s).believed fun inUse => ?_
    rw [(endOnMedium_frame service e next).1] at inUse
    rcases inUse with idle | inService
    · exact reach idle
    · exact absurd (resting.symm.trans inService) nofun

theorem WorkStep.located {distinct : Prop} {s t : State} (step : WorkStep distinct s t) (h : Located s) : Located t := by
  cases step with
  | frame requests sequencer => exact located_of_sequencer h sequencer
  | progress f index state requests sequencer => exact located_of_sequencer h sequencer
  | held status failing off => exact located_of_sequencer h (enterHeld_frame _ _ _ s).sequencer
  | freed off => exact located_of_sequencer h (freeRequest_frame _ s).sequencer
  | posted off => exact h
  | entered lowest => exact h
  | stopMarked found active reason => exact h
  | orphaned found isServed => exact h
  | ended resting reach asked => exact endOnMedium_located resting reach h
  | moved requests state service located => exact located h
  | reset requests service state => exact fun inUse => absurd inUse state

/-! ### Paths -/

/-- Steps of the work in progress, one after another. -/
def WorkPath (distinct : Prop) : State → State → Prop := Relation.ReflTransGen (WorkStep distinct)

theorem path_refl (distinct : Prop) (s : State) : WorkPath distinct s s := Relation.ReflTransGen.refl

theorem path_step {distinct : Prop} {s t : State} (h : WorkStep distinct s t) : WorkPath distinct s t := Relation.ReflTransGen.single h

theorem path_trans {distinct : Prop} {s t u : State} (h : WorkPath distinct s t) (k : WorkPath distinct t u) : WorkPath distinct s u :=
  Relation.ReflTransGen.trans h k

theorem path_frame {distinct : Prop} {s t : State} (requests : t.requests = s.requests) (sequencer : t.sequencer = s.sequencer) :
    WorkPath distinct s t := path_step (.frame requests sequencer)

theorem locksOnly_requests {s t : State} (h : LocksOnly s t) : t.requests = s.requests := by
  rw [h]
  rfl

theorem path_of_locksOnly {distinct : Prop} {s t : State} (h : LocksOnly s t) : WorkPath distinct s t :=
  path_frame (locksOnly_requests h) (locksOnly_sequencer h)

theorem WorkPath.oneServed {distinct : Prop} {s t : State} (path : WorkPath distinct s t) (isDistinct : distinct) (h : OneServed s) :
    OneServed t := by
  induction path with
  | refl => exact h
  | tail _ step ih => exact step.oneServed isDistinct ih

theorem WorkPath.located {distinct : Prop} {s t : State} (path : WorkPath distinct s t) (h : Located s) : Located t := by
  induction path with
  | refl => exact h
  | tail _ step ih => exact step.located ih

/-- The sequencer moves on while it serves its request. -/
theorem path_served {distinct : Prop} {s t : State} (before : serving s.sequencer.state = true)
    (after : serving t.sequencer.state = true) (requests : t.requests = s.requests)
    (service : t.sequencer.service.map Service.key = s.sequencer.service.map Service.key)
    (believed : t.sequencer.believed = s.sequencer.believed) : WorkPath distinct s t :=
  path_step (.moved requests (fun _ => after.trans before.symm) service fun h => located_of_state h believed fun _ => .inr before)

/-- What a change leaves of the sequencer, when it touches no state, no believed cylinder and no key of the service. -/
theorem path_unmoved {distinct : Prop} {s t : State} (requests : t.requests = s.requests)
    (state : t.sequencer.state = s.sequencer.state)
    (service : t.sequencer.service.map Service.key = s.sequencer.service.map Service.key)
    (believed : t.sequencer.believed = s.sequencer.believed) : WorkPath distinct s t :=
  path_step (.moved requests (fun _ => by rw [state]) service fun h => located_of_state h believed (by rw [state]; exact id))

theorem modifyService_path {distinct : Prop} {f : Service → Service} (s : State) (key : ∀ v, (f v).key = v.key := by intro _; rfl) :
    WorkPath distinct s (modifyService f s) := by
  refine path_unmoved rfl rfl ?_ rfl
  show (s.sequencer.service.map f).map Service.key = _
  rw [Option.map_map]
  exact congrArg (fun g => s.sequencer.service.map g) (funext key)

theorem foldl_path {distinct : Prop} {α : Type} (f : State → α → State) (h : ∀ s x, WorkPath distinct s (f s x)) (l : List α)
    (s : State) : WorkPath distinct s (l.foldl f s) := by
  induction l generalizing s with
  | nil => exact path_refl _ s
  | cons x l ih => exact path_trans (h s x) (ih _)

/-- What a command leaves: a path, settled at its end, or a path that makes no request READY beside an IDLE sequencer. -/
inductive Finished (distinct : Prop) (s t : State) : Prop
  | settled {u : State} (path : WorkPath distinct s u) (requests : t.requests = (settle u).requests)
      (sequencer : t.sequencer = (settle u).sequencer)
  | plain (path : WorkPath distinct s t) (quiet : Quiet s → Quiet t)

theorem Finished.oneServed {distinct : Prop} {s t : State} (h : Finished distinct s t) (isDistinct : distinct) (k : OneServed s) :
    OneServed t := by
  cases h with
  | settled path requests sequencer => exact oneServed_of_frame (settle_oneServed (path.oneServed isDistinct k)) requests sequencer
  | plain path _ => exact path.oneServed isDistinct k

theorem quiet_of_same {s t : State} (h : Quiet s) (requests : t.requests = s.requests)
    (state : t.sequencer.state = .idle → s.sequencer.state = .idle) : Quiet t := fun idle => by
  rw [readyRequests, requests]
  exact h (state idle)

theorem Finished.workConserving {distinct : Prop} {s t : State} (h : Finished distinct s t) (k : WorkConserving s) : WorkConserving t := by
  obtain ⟨located, quiet⟩ := (workConserving_iff s).mp k
  cases h with
  | settled path requests sequencer =>
    obtain ⟨located', quiet'⟩ := (workConserving_iff _).mp (settle_workConserving (path.located located))
    exact ⟨located_of_sequencer located' sequencer, quiet_of_same quiet' requests (by rw [sequencer]; exact id)⟩
  | plain path keeps => exact ⟨path.located located, keeps quiet⟩

theorem finished_settle {distinct : Prop} {s u : State} (path : WorkPath distinct s u) : Finished distinct s (settle u) :=
  .settled path rfl rfl

/-- A command that leaves the table, and no sequencer IDLE that was not. -/
theorem finished_plain {distinct : Prop} {s t : State} (path : WorkPath distinct s t) (requests : t.requests = s.requests)
    (state : t.sequencer.state = .idle → s.sequencer.state = .idle) : Finished distinct s t :=
  .plain path fun quiet => quiet_of_same quiet requests state

theorem finished_frame {distinct : Prop} {s t : State} (requests : t.requests = s.requests) (sequencer : t.sequencer = s.sequencer) :
    Finished distinct s t := finished_plain (path_frame requests sequencer) requests (by rw [sequencer]; exact id)

theorem finished_of_locksOnly {distinct : Prop} {s t : State} (h : LocksOnly s t) : Finished distinct s t :=
  finished_frame (locksOnly_requests h) (locksOnly_sequencer h)

/-- A sequencer that is not IDLE at the end has no run to make. -/
theorem finished_busy {distinct : Prop} {s t : State} (path : WorkPath distinct s t) (state : t.sequencer.state ≠ .idle) :
    Finished distinct s t := .plain path fun _ idle => absurd idle state

/-- What precedes and follows the work of a command leaves the table and the sequencer. -/
theorem finished_from {distinct : Prop} {s m t : State} (requests : m.requests = s.requests) (sequencer : m.sequencer = s.sequencer)
    (h : Finished distinct m t) : Finished distinct s t := by
  cases h with
  | settled path requests' sequencer' => exact .settled (path_trans (path_frame requests sequencer) path) requests' sequencer'
  | plain path quiet =>
    exact .plain (path_trans (path_frame requests sequencer) path) fun q =>
      quiet (quiet_of_same q requests (by rw [sequencer]; exact id))

theorem finished_to {distinct : Prop} {s m t : State} (requests : t.requests = m.requests) (sequencer : t.sequencer = m.sequencer)
    (h : Finished distinct s m) : Finished distinct s t := by
  cases h with
  | settled path requests' sequencer' => exact .settled path (requests.trans requests') (sequencer.trans sequencer')
  | plain path quiet =>
    exact .plain (path_trans path (path_frame requests sequencer)) fun q =>
      quiet_of_same (quiet q) requests (by rw [sequencer]; exact id)

theorem finished_refl (distinct : Prop) (s : State) : Finished distinct s s := finished_frame rfl rfl

/-! ### The operations of the Request Table and the sequencer as paths -/

theorem offMedium_of_state {s : State} {i : Nat} {r : Request} (found : findRequest s i = some r) (unserved : served r = false) :
    OffMedium s i := fun q h => by
  rw [found] at h
  cases h
  exact unserved

theorem unserved_of_awaits {r : Request} (h : r.state = .waiting ∨ r.state = .ready) : served r = false := by
  unfold served Request.isActive
  rcases h with h | h <;> rw [h] <;> rfl

theorem takeStop_path {distinct : Prop} {s : State} (asked : distinct → StopIsAsked s) : WorkPath distinct s (takeStop s) := by
  have stop : serving s.sequencer.state = true → WorkPath distinct s (endOnMedium .stopped .idle s) := fun inService =>
    path_step (.ended rfl (fun _ => .inr inService) fun d _ => asked d)
  unfold takeStop
  split
  · next state => exact stop (by rw [state]; rfl)
  · next state => exact stop (by rw [state]; rfl)
  · next state =>
    split
    · exact path_refl _ s
    · exact stop (by rw [state]; rfl)
  · exact path_refl _ s

theorem askStop_path (distinct : Prop) (i : Nat) (reason : Status) (s : State) : WorkPath distinct s (askStop i reason s) := by
  unfold askStop
  split
  · exact path_refl _ s
  · next r found =>
    split
    · next active =>
      exact path_trans (path_step (.stopMarked found active reason))
        (takeStop_path fun _ => stopIsAsked_of_asked (markStop_sequencer i reason s))
    · exact path_refl _ s

theorem cessationOf_path (distinct : Prop) (owner : Port) (extent : Extent) (s : State) (i : Nat) :
    WorkPath distinct s (cessationOf owner extent s i) := by
  rcases cessationOf_cases owner extent s i with ⟨r, found, _, state, held⟩ | ⟨r, found, _, state, stopped⟩ | ⟨same, _⟩
  · rw [held]
    exact path_step (.held _ _ fun _ => (offMedium_of_state found (unserved_of_awaits state)))
  · rw [stopped]
    exact path_step (.stopMarked found state _)
  · rw [same]
    exact path_refl _ s

theorem lockCessation_path (distinct : Prop) (owner : Port) (extent : Extent) (s : State) :
    WorkPath distinct s (lockCessation owner extent s) := foldl_path _ (cessationOf_path distinct owner extent) _ s

/-- The stop of a report taken after it, with what may join a list between. -/
theorem cessationStop_path {distinct : Prop} {owner : Port} {extent : Extent} {s u : State} (isDistinct : distinct → EntriesDistinct s)
    (sequencer : u.sequencer = (lockCessation owner extent s).sequencer) :
    WorkPath distinct u (cessationStop (cessationStops owner extent s) u) := by
  unfold cessationStop
  split
  · next stops =>
    refine takeStop_path fun d => ?_
    unfold StopIsAsked
    rw [sequencer]
    exact lockCessation_asked (isDistinct d) stops
  · exact path_refl _ u

theorem ceaseLock_path {distinct : Prop} {s : State} (isDistinct : distinct → EntriesDistinct s) (i : Nat) (lock : Lock) (kind : EndKind) :
    WorkPath distinct s (ceaseLock i lock kind s) :=
  path_trans (t := setLockState i (.ended lock kind) s) (path_frame rfl rfl) (path_trans (lockCessation_path _ _ _ _)
    (path_trans (t := joinPending lock.owner (.lock i) _) (path_frame rfl rfl)
      (cessationStop_path (s := setLockState i (.ended lock kind) s) isDistinct rfl)))

theorem forceUnreported_path {distinct : Prop} {s : State} (isDistinct : distinct → EntriesDistinct s) (i : Nat) (lock : Lock) :
    WorkPath distinct s (forceUnreported i lock s) :=
  path_trans (t := setLockState i (.ended lock .forced) s) (path_frame rfl rfl) (path_trans (lockCessation_path _ _ _ _)
    (cessationStop_path (s := setLockState i (.ended lock .forced) s) isDistinct rfl))

theorem ceaseLock_distinct {s : State} (h : EntriesDistinct s) (i : Nat) (lock : Lock) (kind : EndKind) :
    EntriesDistinct (ceaseLock i lock kind s) :=
  entriesDistinct_of_kept (kept_trans (lockCessation_kept _ _ (setLockState i (.ended lock kind) s))
    (kept_trans (joinPending_kept _ _ _) (cessationStop_kept _ _))) (entriesDistinct_congr (s := s) rfl h)

theorem tickLease_distinct {s : State} (h : EntriesDistinct s) (i : Nat) : EntriesDistinct (tickLease s i) := by
  unfold tickLease
  split
  · split
    · exact ceaseLock_distinct h _ _ _
    · exact h
  · exact h

theorem tickLease_path {distinct : Prop} {s : State} (isDistinct : distinct → EntriesDistinct s) (i : Nat) :
    WorkPath distinct s (tickLease s i) := by
  unfold tickLease
  split
  · split
    · exact ceaseLock_path isDistinct _ _ _
    · exact path_frame rfl rfl
  · exact path_refl _ s

theorem foldl_tickLease_path {distinct : Prop} (l : List Nat) {s : State} (isDistinct : distinct → EntriesDistinct s) :
    WorkPath distinct s (l.foldl tickLease s) := by
  induction l generalizing s with
  | nil => exact path_refl _ s
  | cons i l ih => exact path_trans (tickLease_path isDistinct i) (ih fun d => tickLease_distinct (isDistinct d) i)

theorem offlineReport_path (distinct : Prop) (s : State) : WorkPath distinct s (offlineReport s) := by
  rw [offlineReport_eq]
  refine foldl_path _ (fun t i => ?_) _ s
  rcases offlineTurn_cases t i with ⟨same, _⟩ | ⟨r, found, state, held⟩
  · rw [same]
    exact path_refl _ t
  · rw [held]
    exact path_step (.held _ _ fun _ => (offMedium_of_state found (unserved_of_awaits state)))

theorem orphanRequest_path (distinct : Prop) {s : State} {i : Nat} {r : Request} (found : findRequest s i = some r)
    (isServed : served r = true) : WorkPath distinct s (orphanRequest i s) := by
  rw [orphanRequest_eq]
  refine path_trans (path_step (.orphaned found isServed)) (takeStop_path fun _ v service => ?_)
  obtain ⟨w, _, rfl⟩ := Option.map_eq_some_iff.mp (show s.sequencer.service.map _ = some v from service)
  rfl

theorem resetRequest_path (distinct : Prop) (p : Port) (s : State) (i : Nat) : WorkPath distinct s (resetRequest p s i) := by
  unfold resetRequest
  split
  · exact path_refl _ s
  · next r found =>
    split
    · split
      · next state => exact orphanRequest_path distinct found ((served_iff r).mpr (.inl ⟨_, state⟩))
      · exact path_refl _ s
      · next notActive notOrphaned =>
        refine path_step (.freed fun _ => (offMedium_of_state found (Bool.eq_false_iff.mpr fun isServed => ?_)))
        exact ((served_iff r).mp isServed).elim (fun ⟨stop, state⟩ => notActive stop state) notOrphaned
    · exact path_refl _ s

theorem portReset_finished (distinct : Prop) (p : Port) (s : State) : Finished distinct s (portReset p s) :=
  finished_settle (path_trans (foldl_path _ (resetRequest_path distinct p) _ s) (path_trans (t := resetPortState p (resetRequests p s))
    (path_frame rfl rfl) (path_trans (path_of_locksOnly (resetLocks_locksOnly p _)) (path_of_locksOnly (reexamine_locksOnly _)))))

/-- An end brought about while the sequencer is in use. -/
theorem endOnMedium_path {distinct : Prop} {s : State} {e : MediumEnd} {next : SequencerState} (inService : serving s.sequencer.state = true)
    (resting : serving next = false) (asked : e = .stopped → StopIsAsked s) : WorkPath distinct s (endOnMedium e next s) :=
  path_step (.ended resting (fun _ => .inr inService) fun _ => asked)

theorem failOnMedium_path {distinct : Prop} {s : State} (inService : serving s.sequencer.state = true) (status : Status) (failing : Nat) :
    WorkPath distinct s (failOnMedium status failing s) := endOnMedium_path inService rfl nofun

theorem failCurrent_path {distinct : Prop} {s : State} (inService : serving s.sequencer.state = true) (status : Status) :
    WorkPath distinct s (failCurrent status s) := by
  unfold failCurrent
  split
  · exact path_refl _ s
  · exact failOnMedium_path inService _ _

theorem stopIsAsked_of_service {s : State} {v : Service} (service : s.sequencer.service = some v) (asked : v.stopAsked = true) :
    StopIsAsked s := fun w h => by
  rw [service] at h
  cases h
  exact asked

theorem issueSeek_path {distinct : Prop} {s : State} (inService : serving s.sequencer.state = true) (cylinder : Nat) :
    WorkPath distinct s (issueSeek cylinder s) := path_served inService rfl rfl rfl rfl

theorem enterSettling_path {distinct : Prop} {s : State} (inService : serving s.sequencer.state = true) :
    WorkPath distinct s (enterSettling s) := path_served inService rfl rfl rfl rfl

theorem enterSearching_path {distinct : Prop} {s : State} (inService : serving s.sequencer.state = true) :
    WorkPath distinct s (enterSearching s) := by
  unfold enterSearching
  split
  · exact path_refl _ s
  · next v service => exact path_served inService rfl rfl (by rw [service]; rfl) rfl

theorem enterFormatting_path {distinct : Prop} {s : State} (inService : serving s.sequencer.state = true) :
    WorkPath distinct s (enterFormatting s) := by
  unfold enterFormatting
  split
  · exact path_refl _ s
  · next v service =>
    have moved : WorkPath distinct s (s.modifySequencer fun q =>
        { q with state := .formatting, head := headOf v.current, service := some { v with headerReading := false, phase := .waitIndex } }) :=
      path_served inService rfl rfl (by rw [service]; rfl) rfl
    dsimp only
    split
    · exact path_trans moved (failOnMedium_path rfl _ _)
    · exact moved

theorem headerMismatch_path {distinct : Prop} {s : State} (inService : serving s.sequencer.state = true) :
    WorkPath distinct s (headerMismatch s) := by
  unfold headerMismatch
  split
  · exact path_refl _ s
  · next v service =>
    split
    · exact path_served inService rfl rfl (by rw [service]; rfl) rfl
    · exact failCurrent_path inService _

theorem finishBlocks_path (distinct : Prop) (n retries : Nat) (s : State) : WorkPath distinct s (finishBlocks n retries s) := by
  unfold finishBlocks
  split
  · exact path_refl _ s
  · refine path_step (.progress _ (fun r => ?_) (fun r => ?_) rfl rfl) <;> split <;> rfl

theorem nextBlock_path {distinct : Prop} {s : State} {v : Service} (service : s.sequencer.service = some v)
    (inService : serving s.sequencer.state = true) : WorkPath distinct s (nextBlock v s) := by
  unfold nextBlock
  dsimp only
  split
  · exact path_trans (modifyService_path s)
      (enterSearching_path inService)
  · exact path_served inService rfl rfl (by rw [service]; rfl) rfl

theorem advance_path {distinct : Prop} {s : State} (inService : serving s.sequencer.state = true) : WorkPath distinct s (advance s) := by
  unfold advance
  split
  · exact path_refl _ s
  · next v service =>
    split
    · exact path_refl _ s
    · split
      · exact endOnMedium_path inService rfl nofun
      · split
        · next asked => exact endOnMedium_path inService rfl fun _ => stopIsAsked_of_service service asked
        · exact nextBlock_path service inService

theorem dataCheckError_path {distinct : Prop} {s : State} (inService : serving s.sequencer.state = true) :
    WorkPath distinct s (dataCheckError s) := by
  unfold dataCheckError
  split
  · exact path_refl _ s
  · next v service =>
    split
    · next asked => exact endOnMedium_path inService rfl fun _ => stopIsAsked_of_service service asked
    · split
      · exact path_trans (modifyService_path s)
          (enterSearching_path inService)
      · exact failCurrent_path inService _

/-! ### The commands that hosts issue -/

theorem decideTransfer_finished (distinct : Prop) (p : Port) (x : Transfer) (s : State) :
    Finished distinct s (decideTransfer p x s).state := by
  unfold decideTransfer
  split
  · exact finished_refl _ s
  · split
    · exact finished_refl _ s
    · next i lowest =>
      show Finished distinct s (acceptTransfer i p x s)
      unfold acceptTransfer
      dsimp only
      split
      · exact finished_settle (path_step (.entered lowest))
      · next depends =>
        refine .plain (path_step (.entered lowest)) fun quiet idle => ?_
        have waits : (newRequest i p x s).state ≠ .ready := by
          show (if _ then RequestState.ready else RequestState.waiting) ≠ .ready
          rw [if_neg depends]
          exact nofun
        show (s.requests ++ [newRequest i p x s]).filter _ = []
        rw [List.filter_append, List.filter_cons_of_neg (by simpa using waits), List.filter_nil, List.append_nil]
        exact quiet idle

theorem decideCancel_finished {distinct : Prop} (p : Port) (tag : BitVec 8) {s : State} (isDistinct : distinct → EntriesDistinct s) :
    Finished distinct s (decideCancel p tag s).state := by
  unfold decideCancel
  split
  · exact finished_refl _ s
  · next r named =>
    have held : r.state = .waiting ∨ r.state = .ready → Finished distinct s (settle (enterHeld r.index .cancelled none s)) := fun state =>
      finished_settle (path_step (.held _ _ fun d =>
        offMedium_of_state (findRequest_of_mem (isDistinct d) (findTag_some named).1) (unserved_of_awaits state)))
    split
    · next state => exact held (.inl state)
    · next state => exact held (.inr state)
    · exact finished_settle (askStop_path distinct _ _ s)
    · exact finished_refl _ s
    · exact finished_refl _ s

theorem decideForceRelease_finished {distinct : Prop} (p : Port) (h : Handle) {s : State} (isDistinct : distinct → EntriesDistinct s) :
    Finished distinct s (decideForceRelease p h s).state := by
  unfold decideForceRelease
  split
  · split
    · exact finished_refl _ s
    · exact finished_settle (path_trans (ceaseLock_path isDistinct _ _ _) (path_of_locksOnly (reexamine_locksOnly _)))
    · exact finished_settle (path_trans (forceUnreported_path isDistinct _ _) (path_of_locksOnly (reexamine_locksOnly _)))
  · exact finished_refl _ s

theorem takeCommand_finished {distinct : Prop} {p : Port} {owns : Byte → Bool} {decision : List Word → State → Answer} {s : State}
    (h : ∀ command, Finished distinct s (decision command s).state) : Finished distinct s (takeCommand p owns decision s) := by
  unfold takeCommand
  split
  · exact finished_refl _ s
  · split
    · exact finished_refl _ s
    · split
      · next command _ _ _ => exact finished_to (m := (decision command s).state) rfl rfl (h command)
      · exact finished_refl _ s

theorem windowWrite_finished {distinct : Prop} {p : Port} {effect : State → State} {s : State} (h : Finished distinct s (effect s)) :
    Finished distinct s (windowWrite p effect s) := by
  unfold windowWrite
  split
  · exact finished_refl _ s
  · exact h

theorem removeRequest_quiet {s : State} (i : Nat) (h : Quiet s) : Quiet (removeRequest i s) := fun idle => by
  refine List.filter_eq_nil_iff.mpr fun r mem => ?_
  exact List.filter_eq_nil_iff.mp (h idle) r (List.mem_filter.mp mem).1

theorem postItem_finished {distinct : Prop} {item : OwnerRef} {s t : State} {record : Record}
    (h : postItem item s = some (record, t)) : Finished distinct s t := by
  unfold postItem at h
  split at h
  · split at h
    · cases h
    · next r found =>
      split at h
      · next state =>
        cases h
        exact .plain (path_step (.posted fun _ => offMedium_of_state found (by rw [served, Request.isActive, state]; rfl)))
          (removeRequest_quiet _)
      · cases h
  · split at h
    · cases h
      exact finished_frame rfl rfl
    · cases h
      exact finished_of_locksOnly (locksOnly_trans (setLockState_locksOnly _ _ s) (reexamine_locksOnly _))
    · cases h
      exact finished_of_locksOnly (locksOnly_trans (setLockState_locksOnly _ _ s) (reexamine_locksOnly _))
    · cases h
  · split at h
    · cases h
    · split at h
      · cases h
        exact finished_of_locksOnly (locksOnly_trans (removeWaiter_locksOnly _ s) (reexamine_locksOnly _))
      · cases h

theorem postRecord_finished (distinct : Prop) (p : Port) (s : State) : Finished distinct s (postRecord p s) := by
  rcases postRecord_cases p s with same | ⟨_, rest, _, u, _, _, posted, result⟩
  · rw [same]
    exact finished_refl _ s
  · rw [result]
    exact finished_to (m := u) rfl rfl (finished_from (m := s.withPendingRecords (s.pendingRecords.set p rest)) rfl rfl (postItem_finished posted))

/-! ### The lease tick -/

theorem tickLeases_frame {s : State} (h : s.locks.any LockEntry.expiring = false) :
    (tickLeases s).requests = s.requests ∧ (tickLeases s).sequencer = s.sequencer := by
  have fold : ∀ (l : List Nat), l.Nodup → ∀ u : State, (∀ i ∈ l, (lockAt u i).expiring = false) →
      (l.foldl tickLease u).requests = u.requests ∧ (l.foldl tickLease u).sequencer = u.sequencer := fun l => by
    induction l with
    | nil => exact fun _ _ _ => ⟨rfl, rfl⟩
    | cons i l ih =>
      intro nodup u goesOn
      obtain ⟨notMem, nodup⟩ := List.nodup_cons.mp nodup
      have turn : (tickLease u i).requests = u.requests ∧ (tickLease u i).sequencer = u.sequencer := by
        have goesOn' := goesOn i List.mem_cons_self
        unfold tickLease
        split
        · next lock lease state =>
          split
          · next ends => simp [LockEntry.expiring, state, ends] at goesOn'
          · exact ⟨rfl, rfl⟩
        · exact ⟨rfl, rfl⟩
      obtain ⟨requests, sequencer⟩ := ih nodup (tickLease u i) fun j mem => by
        rw [lockAt_tickLease_ne fun e : j = i => notMem (e ▸ mem)]
        exact goesOn j (List.mem_cons_of_mem i mem)
      exact ⟨requests.trans turn.1, sequencer.trans turn.2⟩
  exact fold _ List.nodup_range s fun i _ => lockAt_not_expiring h i

theorem leaseTick_finished {distinct : Prop} {s : State} (isDistinct : distinct → EntriesDistinct s) :
    ∃ t, exec .leaseTick s = .next t ∧ Finished distinct s t := by
  have waits := afterWaits_locksOnly (afterLeases s)
  cases expiring : s.locks.any LockEntry.expiring with
  | true =>
    have path : WorkPath distinct s (afterLeases s) := by
      unfold afterLeases
      rw [if_pos expiring]
      exact path_trans (foldl_tickLease_path _ isDistinct) (path_of_locksOnly (reexamine_locksOnly _))
    exact ⟨settle (afterWaits (afterLeases s)), (exec_leaseTick_eq s).trans (congrArg Host.Outcome.next (if_pos expiring)),
      finished_settle (path_trans path (path_of_locksOnly waits))⟩
  | false =>
    obtain ⟨requests, sequencer⟩ := tickLeases_frame expiring
    have leases : afterLeases s = tickLeases s := by
      unfold afterLeases
      rw [expiring]
      rfl
    have notExpiring : ¬ s.locks.any LockEntry.expiring = true := by rw [expiring]; exact Bool.false_ne_true
    refine ⟨afterWaits (afterLeases s), (exec_leaseTick_eq s).trans (congrArg Host.Outcome.next (if_neg notExpiring)), ?_⟩
    rw [leases] at waits ⊢
    exact finished_frame ((locksOnly_requests waits).trans requests) ((locksOnly_sequencer waits).trans sequencer)

/-! ### The events of the drive -/

theorem riseReady_finished (distinct : Prop) {s : State} : Finished distinct s (riseReady s) := by
  have rises : serving s.sequencer.state = false → ∀ t : State, t.requests = s.requests →
      t.sequencer.state = .recalibrating → t.sequencer.service = s.sequencer.service → Finished distinct s t :=
    fun resting t requests state service => finished_busy
      (path_step (.moved requests (fun _ => by rw [state, resting]; rfl) (by rw [service]) fun _ inUse => by
        rw [state] at inUse
        exact inUse.elim nofun nofun))
      (by rw [state]; exact nofun)
  unfold riseReady
  dsimp only
  split
  · next state => exact rises (by rw [state]; rfl) _ rfl rfl rfl
  · next state => exact rises (by rw [state]; rfl) _ rfl rfl rfl
  · exact finished_frame rfl rfl

theorem enterHolding_path {distinct : Prop} {s : State} (resting : ServicePresent s → serving s.sequencer.state = false) :
    WorkPath distinct s (enterHolding s) :=
  path_step (.moved rfl (fun present => (resting present).symm) rfl fun _ inUse => inUse.elim nofun nofun)

theorem loseReady_path (distinct : Prop) (s : State) : WorkPath distinct s (loseReady s) := path_unmoved rfl rfl rfl rfl

/-- After the end of its work a sequencer whose service record was present rests. -/
theorem endOnMedium_resting {s : State} (e : MediumEnd) {next : SequencerState} (resting : serving next = false)
    (present : ServicePresent (endOnMedium e next s)) : serving (endOnMedium e next s).sequencer.state = false := by
  cases service : s.sequencer.service with
  | none =>
    have same : endOnMedium e next s = s := by simp only [endOnMedium, service]
    unfold ServicePresent at present
    rw [same, service] at present
    rw [same]
    exact present.symm
  | some v =>
    rw [(endOnMedium_frame service e next).1]
    exact resting

theorem fallingReady_finished (distinct : Prop) (wp : Bool) (s : State) :
    ∃ t, exec (.fallingReady wp) s = .next t ∧ Finished distinct s t := by
  refine ⟨_, rfl, finished_from (m := senseWriteProtect wp s) rfl rfl ?_⟩
  have lost := loseReady_path distinct (senseWriteProtect wp s)
  have holds : serving s.sequencer.state = false → Finished distinct (senseWriteProtect wp s)
      (enterHolding (loseReady (senseWriteProtect wp s))) := fun resting =>
    finished_busy (path_trans lost (enterHolding_path fun _ => resting)) nofun
  split
  · dsimp only
    split
    · exact finished_plain lost rfl id
    · exact finished_plain lost rfl id
    · next state => exact holds (by rw [show s.sequencer.state = _ from state]; rfl)
    · next state => exact holds (by rw [show s.sequencer.state = _ from state]; rfl)
    · exact finished_settle (path_trans lost
        (path_trans (t := endOnMedium (.failed .driveNotReady none) .holding _) (path_step (.ended rfl nofun fun _ => nofun))
          (enterHolding_path (endOnMedium_resting _ rfl))))
  · exact finished_refl _ _

theorem beginFormatBlock_path (distinct : Prop) (v : Service) (s : State) : WorkPath distinct s (beginFormatBlock v s) := by
  unfold beginFormatBlock
  split
  · exact path_refl _ s
  · exact path_trans (modifyService_path s)
      (path_frame rfl rfl)

theorem beginFormatBlock_frame (v : Service) (s : State) :
    (beginFormatBlock v s).requests = s.requests ∧ (beginFormatBlock v s).sequencer.state = s.sequencer.state := by
  unfold beginFormatBlock
  split <;> exact ⟨rfl, rfl⟩

/-- A change of the service record that keeps its key. -/
theorem modifyService_finished {distinct : Prop} {f : Service → Service} (s : State)
    (key : ∀ v, (f v).key = v.key := by intro _; rfl) : Finished distinct s (modifyService f s) :=
  finished_plain (modifyService_path s key) rfl id

theorem indexInSearch_finished {distinct : Prop} {s : State} (inService : serving s.sequencer.state = true) :
    Finished distinct s (indexInSearch s) := by
  unfold indexInSearch
  split
  · exact finished_refl _ s
  · split
    · exact finished_settle (failCurrent_path inService _)
    · exact modifyService_finished s

theorem indexInFormat_finished {distinct : Prop} {s : State} (inService : serving s.sequencer.state = true) :
    Finished distinct s (indexInFormat s) := by
  unfold indexInFormat
  split
  · exact finished_refl _ s
  · split
    · exact modifyService_finished s
    · exact finished_refl _ s
    · exact finished_settle (failOnMedium_path inService _ _)
    · exact finished_settle (failOnMedium_path inService _ _)

theorem beginFormatBlock_finished (distinct : Prop) (v : Service) (s : State) : Finished distinct s (beginFormatBlock v s) :=
  finished_plain (beginFormatBlock_path distinct v s) (beginFormatBlock_frame v s).1 (by rw [(beginFormatBlock_frame v s).2]; exact id)

theorem markInFormat_finished {distinct : Prop} {s : State} (inService : serving s.sequencer.state = true) :
    Finished distinct s (markInFormat s) := by
  unfold markInFormat
  split
  · exact finished_refl _ s
  · split
    · exact finished_refl _ s
    · exact beginFormatBlock_finished _ _ _
    · exact finished_settle (failOnMedium_path inService _ _)
    · exact beginFormatBlock_finished _ _ _

theorem cutField_finished {distinct : Prop} {s : State} (inService : serving s.sequencer.state = true) :
    Finished distinct s (if readsField s then settle (dataCheckError s) else s) := by
  split
  · exact finished_settle (dataCheckError_path inService)
  · exact finished_refl _ s

/-- A path before the work of an event that leaves the table and the sequencer's state. -/
theorem finished_after {distinct : Prop} {s m t : State} (path : WorkPath distinct s m) (requests : m.requests = s.requests)
    (state : m.sequencer.state = .idle → s.sequencer.state = .idle) (h : Finished distinct m t) : Finished distinct s t := by
  cases h with
  | settled path' requests' sequencer' => exact .settled (path_trans path path') requests' sequencer'
  | plain path' quiet => exact .plain (path_trans path path') fun q => quiet (quiet_of_same q requests state)

theorem pulse_path (distinct : Prop) (wp : Bool) (position : Option Nat) (s : State) :
    WorkPath distinct s (setPosition position (senseWriteProtect wp s)) := path_unmoved rfl rfl rfl rfl

theorem index_finished (distinct : Prop) (wp : Bool) (s : State) : ∃ t, exec (.index wp) s = .next t ∧ Finished distinct s t := by
  refine ⟨_, rfl, ?_⟩
  split
  · refine finished_after (pulse_path distinct wp (some 0) s) rfl id ?_
    dsimp only
    split
    · next state => exact indexInSearch_finished (by rw [state]; rfl)
    · next state => exact cutField_finished (by rw [state]; rfl)
    · next state => exact indexInFormat_finished (by rw [state]; rfl)
    · exact finished_refl _ _
  · exact finished_frame rfl rfl

theorem blockMark_finished (distinct : Prop) (wp : Bool) (s : State) : ∃ t, exec (.blockMark wp) s = .next t ∧ Finished distinct s t := by
  refine ⟨_, rfl, ?_⟩
  split
  · refine finished_after (pulse_path distinct wp (positionAfterMark s.sequencer.position) s) rfl id ?_
    dsimp only
    split
    · exact modifyService_finished _
    · next state => exact cutField_finished (state ▸ rfl)
    · next state => exact markInFormat_finished (state ▸ rfl)
    · exact finished_refl _ _
  · exact finished_frame rfl rfl

theorem enterTransferring_finished {distinct : Prop} {v w : Service} {s t : State} (service : s.sequencer.service = some v)
    (key : w.key = v.key) (inService : serving s.sequencer.state = true) (requests : t.requests = s.requests)
    (sequencer : t.sequencer = { s.sequencer with state := .transferring, service := some w }) : Finished distinct s t :=
  finished_busy (path_served inService (by rw [sequencer]; rfl) requests
    (by rw [sequencer, service]; exact congrArg some key) (by rw [sequencer])) (by rw [sequencer]; exact nofun)

theorem readAtHeader_finished {distinct : Prop} {v : Service} {s : State} (service : s.sequencer.service = some v)
    (inService : serving s.sequencer.state = true) (r : Request) : Finished distinct s (readAtHeader v r s) := by
  unfold readAtHeader
  split
  · exact enterTransferring_finished service rfl inService rfl rfl
  · split
    · split
      · exact finished_refl _ s
      · next i _ => exact enterTransferring_finished (w := { v with buffer := some i }) service rfl inService rfl rfl
    · exact finished_refl _ s

theorem writeAtHeader_finished {distinct : Prop} {v : Service} {s : State} (service : s.sequencer.service = some v)
    (inService : serving s.sequencer.state = true) (r : Request) : Finished distinct s (writeAtHeader v r s) := by
  unfold writeAtHeader
  split
  · exact finished_refl _ s
  · split
    · exact finished_settle (failCurrent_path inService _)
    · exact enterTransferring_finished (w := { v with written := v.written + 1 }) service rfl inService rfl rfl

theorem targetHeader_finished {distinct : Prop} {v : Service} {s : State} (service : s.sequencer.service = some v)
    (inService : serving s.sequencer.state = true) (h : Header) (r : Request) : Finished distinct s (targetHeader h v r s) := by
  unfold targetHeader
  dsimp only
  refine finished_after (m := s.modifySequencer fun q => { q with service := some { v with indexPasses := 0 } })
    (path_unmoved rfl rfl (by rw [service]; rfl) rfl) rfl id ?_
  have inService : serving (s.modifySequencer fun q => { q with service := some { v with indexPasses := 0 } }).sequencer.state = true :=
    inService
  split
  · exact finished_settle (failCurrent_path inService _)
  · split
    · exact readAtHeader_finished rfl inService r
    · exact writeAtHeader_finished rfl inService r
    · exact enterTransferring_finished rfl rfl inService rfl rfl
    · exact finished_refl _ _

theorem headerInSearch_finished {distinct : Prop} {v : Service} {s : State} (service : s.sequencer.service = some v)
    (inService : serving s.sequencer.state = true) (field : List Byte) : Finished distinct s (headerInSearch field v s) := by
  unfold headerInSearch
  split
  · exact finished_refl _ s
  · next h _ =>
    split
    · dsimp only
      refine finished_after (m := setPosition (some ((h.block + 1) % Config.blocksPerTrack)) s) (path_unmoved rfl rfl rfl rfl) rfl id ?_
      split
      · split
        · exact finished_refl _ _
        · exact targetHeader_finished (s := setPosition (some ((h.block + 1) % Config.blocksPerTrack)) s) service inService _ _
      · exact finished_refl _ _
    · exact finished_settle (headerMismatch_path inService)

theorem headerRead_finished (distinct : Prop) (wp : Bool) (field : List Byte) (s : State) :
    ∃ t, exec (.headerRead wp field) s = .next t ∧ Finished distinct s t := by
  by_cases reading : ∃ v, s.sequencer.service = some v ∧ s.sequencer.state = .searching ∧ v.headerReading = true
  · obtain ⟨v, service, reading⟩ := reading
    refine ⟨_, exec_headerRead_of_reading service reading wp field, ?_⟩
    refine finished_after (m := (senseWriteProtect wp s).modifySequencer fun q =>
      { q with service := some { v with headerReading := false } }) (path_unmoved rfl rfl (by rw [service]; rfl) rfl) rfl id ?_
    exact headerInSearch_finished rfl (by show serving s.sequencer.state = true; rw [reading.1]; rfl) field
  · exact ⟨_, exec_headerRead_of_not_reading (fun v service k => reading ⟨v, service, k⟩) wp field, finished_frame rfl rfl⟩

theorem blockFinished_path {distinct : Prop} {s : State} (inService : serving s.sequencer.state = true) (retries : Nat) :
    WorkPath distinct s (advance (finishBlocks 1 retries s)) := by
  refine path_trans (finishBlocks_path distinct 1 retries s) (advance_path ?_)
  unfold finishBlocks
  split <;> exact inService

theorem fillBuffer_path (distinct : Prop) (v : Service) (field : List Byte) (s : State) : WorkPath distinct s (fillBuffer v field s) := by
  unfold fillBuffer
  split
  · exact path_refl _ s
  · split
    · exact path_refl _ s
    · exact path_trans (t := setBuffer _ _ s) (path_frame rfl rfl)
        (modifyService_path _)

theorem fillBuffer_state (v : Service) (field : List Byte) (s : State) :
    (fillBuffer v field s).sequencer.state = s.sequencer.state := by
  unfold fillBuffer
  split
  · rfl
  · split <;> rfl

theorem readFieldEnd_finished {distinct : Prop} {s : State} (inService : serving s.sequencer.state = true) (v : Service) (r : Request)
    (field : List Byte) : Finished distinct s (readFieldEnd v r field s) := by
  unfold readFieldEnd
  split
  · split
    · split
      · exact finished_settle (blockFinished_path inService _)
      · exact finished_settle (path_trans (fillBuffer_path distinct v field s)
          (blockFinished_path (by rw [fillBuffer_state]; exact inService) _))
    · exact finished_settle (blockFinished_path inService _)
  · exact finished_settle (dataCheckError_path inService)

theorem formatFieldEnd_finished {distinct : Prop} {s : State} (inService : serving s.sequencer.state = true) (v : Service) :
    Finished distinct s (formatFieldEnd v s) := by
  unfold formatFieldEnd
  split
  · split
    · refine finished_settle (path_trans (t := removeWriteGate s) (path_frame rfl rfl)
        (path_trans (finishBlocks_path distinct _ 0 _) (endOnMedium_path ?_ rfl nofun)))
      unfold finishBlocks
      split <;> exact inService
    · exact finished_to (m := modifyService (fun w => { w with phase := .gap }) s) rfl rfl (modifyService_finished s)
  · exact finished_refl _ s

theorem dataFieldEnd_finished (distinct : Prop) (wp : Bool) (field : List Byte) (s : State) :
    ∃ t, exec (.dataFieldEnd wp field) s = .next t ∧ Finished distinct s t := by
  refine ⟨_, rfl, finished_from (m := senseWriteProtect wp s) rfl rfl ?_⟩
  split
  · exact finished_refl _ _
  · next v _ =>
    split
    · exact finished_refl _ _
    · split
      · next state =>
        have inService : serving (senseWriteProtect wp s).sequencer.state = true := by rw [state]; rfl
        split
        · exact finished_settle (path_trans (t := removeWriteGate (freeBuffers (fun b => decide (b.entry = v.entry) && b.servesMedium)
            (senseWriteProtect wp s))) (path_frame rfl rfl)
            (blockFinished_path (s := removeWriteGate (freeBuffers _ (senseWriteProtect wp s))) inService 0))
        · exact readFieldEnd_finished inService _ _ field
      · next state => exact formatFieldEnd_finished (by rw [state]; rfl) _
      · exact finished_refl _ _

theorem seekArrived_finished {distinct : Prop} {v : Service} {s : State} (service : s.sequencer.service = some v)
    (inService : serving s.sequencer.state = true) : Finished distinct s (seekArrived v s) := by
  have recovers : ∀ recovery, WorkPath distinct s (setRecovery recovery s) := fun recovery =>
    modifyService_path s
  unfold seekArrived
  split
  · next asked => exact finished_settle (endOnMedium_path inService rfl fun _ => stopIsAsked_of_service service asked)
  · split
    · split
      · exact finished_busy (path_trans (recovers .used) (enterSettling_path (s := setRecovery .used s) inService)) nofun
      · exact finished_busy (path_trans (recovers .reSeekStep) (issueSeek_path (s := setRecovery .reSeekStep s) inService _)) nofun
    · exact finished_busy (path_trans (recovers .used) (enterSettling_path (s := setRecovery .used s) inService)) nofun
    · exact finished_busy (enterSettling_path inService) nofun

theorem seekDone_finished (distinct : Prop) (wp : Bool) (s : State) : ∃ t, exec (.seekDone wp) s = .next t ∧ Finished distinct s t := by
  refine ⟨_, rfl, finished_from (m := senseWriteProtect wp s) rfl rfl ?_⟩
  split
  · exact finished_refl _ _
  · next positioning _ =>
    have arrives : WorkPath distinct (senseWriteProtect wp s) ((endPositioning (senseWriteProtect wp s)).modifySequencer fun q =>
        { q with believed := some positioning.cylinder }) := path_step (.moved rfl (fun _ => rfl) rfl fun _ _ => rfl)
    dsimp only
    refine finished_after arrives rfl id ?_
    split
    · next state =>
      exact finished_settle (path_step (.moved rfl (fun _ => by rw [state]; rfl) rfl fun _ _ => rfl))
    · next state =>
      split
      · exact finished_refl _ _
      · next v service => exact seekArrived_finished service (by rw [state]; rfl)
    · exact finished_refl _ _

theorem positioningTimeLimit_finished (distinct : Prop) (s : State) :
    ∃ t, exec .positioningTimeLimit s = .next t ∧ Finished distinct s t := by
  refine ⟨_, rfl, ?_⟩
  split
  · refine finished_after (m := endPositioning s) (path_unmoved rfl rfl rfl rfl) rfl id ?_
    dsimp only
    split
    · next state =>
      refine finished_busy (path_trans (t := (endPositioning s).modifySequencer fun q => { q with state := .offline })
        (path_step (.moved rfl (fun _ => by rw [state]; rfl) rfl fun _ inUse => inUse.elim nofun nofun)) (offlineReport_path distinct _)) ?_
      rw [(offlineReport_frame _).sequencer]
      exact nofun
    · next state =>
      have inService : serving (endPositioning s).sequencer.state = true := by rw [state]; rfl
      split
      · exact finished_refl _ _
      · next v service =>
        split
        · next asked => exact finished_settle (endOnMedium_path inService rfl fun _ => stopIsAsked_of_service service asked)
        · exact finished_settle (headerMismatch_path inService)
    · exact finished_refl _ _
  · exact finished_refl _ s

theorem enterSearching_finished {distinct : Prop} {s : State} (inService : serving s.sequencer.state = true) :
    Finished distinct s (enterSearching s) := by
  refine finished_plain (enterSearching_path inService) ?_ fun idle => ?_
  · unfold enterSearching
    split <;> rfl
  · unfold enterSearching at idle
    split at idle
    · exact idle
    · cases idle

theorem settleExpiry_finished (distinct : Prop) (s : State) : ∃ t, exec .settleExpiry s = .next t ∧ Finished distinct s t := by
  refine ⟨_, rfl, ?_⟩
  split
  · next running =>
    refine finished_after (m := s.modifySequencer fun q => { q with settleTimer := none }) (path_unmoved rfl rfl rfl rfl) rfl id ?_
    have inService : serving (s.modifySequencer fun q => { q with settleTimer := none }).sequencer.state = true := by
      show serving s.sequencer.state = true
      rw [running.1]
      rfl
    dsimp only
    split
    · exact finished_refl _ _
    · split
      · exact finished_settle (enterFormatting_path inService)
      · exact enterSearching_finished inService
  · exact finished_refl _ s

theorem faultHoldExpiry_finished (distinct : Prop) (s : State) :
    ∃ t, exec .faultHoldExpiry s = .next t ∧ Finished distinct s t := by
  refine ⟨_, rfl, ?_⟩
  split
  · next holding =>
    refine finished_busy (path_trans (t := s.modifySequencer fun q => { q with state := .offline, faultHoldTimer := none })
      (path_step (.moved rfl (fun _ => by rw [holding.1]; rfl) rfl fun _ inUse => inUse.elim nofun nofun)) (offlineReport_path distinct _)) ?_
    rw [(offlineReport_frame _).sequencer]
    exact nofun
  · exact finished_refl _ s

/-! ### The events of the host bus -/

theorem countDelivered_path (distinct : Prop) (entry : Nat) (s : State) :
    WorkPath distinct s (updateRequest entry (fun q => { q with blocksDone := q.blocksDone + 1 }) s) := by
  refine path_step (.progress _ (fun r => ?_) (fun r => ?_) rfl rfl) <;> split <;> rfl

theorem deliveryReport_path (distinct : Prop) (entry : Nat) (s : State) : WorkPath distinct s (deliveryReport entry s) := by
  unfold deliveryReport
  split
  · exact path_refl _ s
  · next r found =>
    split
    · exact countDelivered_path distinct entry s
    · next state =>
      dsimp only
      split
      · refine path_trans (countDelivered_path distinct entry s) (path_step (.held _ _ fun _ => offMedium_of_state
          (findRequest_update (f := fun q => { q with blocksDone := q.blocksDone + 1 }) (fun _ => rfl) found) ?_))
        rw [served, Request.isActive, state]
        rfl
      · exact countDelivered_path distinct entry s
    · exact path_refl _ s

theorem timeoutReport_path (distinct : Prop) (entry : Nat) (s : State) : WorkPath distinct s (timeoutReport entry s) := by
  unfold timeoutReport
  split
  · exact path_refl _ s
  · next r found =>
    split
    · exact askStop_path _ _ _ s
    · next state =>
      exact path_step (.held _ _ fun _ => offMedium_of_state found (by rw [served, Request.isActive, state]; rfl))
    · exact path_refl _ s

theorem drainBurstEnd_path (distinct : Prop) (p : Port) (i : Nat) (b : Buffer) (moved : Nat) (data : List Word) (s : State) :
    WorkPath distinct s (drainBurstEnd p i b moved data s) := by
  unfold drainBurstEnd
  split
  · exact path_trans (t := setBuffer i none (s.modifyEngine p Engine.release)) (path_frame rfl rfl) (deliveryReport_path _ _ _)
  · exact path_frame rfl rfl

theorem loadBurstEnd_path (distinct : Prop) (p : Port) (i : Nat) (b : Buffer) (data words : List Word) (s : State) :
    WorkPath distinct s (loadBurstEnd p i b data words s) := by
  unfold loadBurstEnd
  dsimp only
  split <;> exact path_frame rfl rfl

theorem burstEnd_finished (distinct : Prop) (p : Port) (words : Vector Word 16) (s : State) :
    ∃ t, exec (.burstEnd p words) s = .next t ∧ Finished distinct s t := by
  refine ⟨_, rfl, ?_⟩
  split
  · split
    · exact finished_settle (path_frame rfl rfl)
    · split
      · exact finished_refl _ s
      · split
        · exact finished_refl _ s
        · split
          · exact finished_settle (drainBurstEnd_path distinct _ _ _ _ _ s)
          · exact finished_settle (loadBurstEnd_path distinct _ _ _ _ _ s)
          · exact finished_refl _ s
  · exact finished_refl _ s

theorem hostBusTimeout_finished (distinct : Prop) (p : Port) (s : State) :
    ∃ t, exec (.hostBusTimeout p) s = .next t ∧ Finished distinct s t := by
  refine ⟨_, rfl, ?_⟩
  split
  · split
    · exact finished_refl _ s
    · next b _ =>
      exact finished_settle (path_trans (t := freeBuffers (fun x => decide (x.entry = b.entry) && !x.servesMedium)
        (s.modifyEngine p (Engine.giveUp b.entry))) (path_frame rfl rfl) (timeoutReport_path _ _ _))
  · exact finished_refl _ s

/-! ### Every command -/

theorem finished_of_taken {distinct : Prop} {c : Instr} {p : Port} {s : State} {owns : Byte → Bool}
    {decision : List Word → State → Answer} (isTaken : exec c s = .next (takeCommand p owns decision s))
    (h : ∀ command, Finished distinct s (decision command s).state) : ∃ t, exec c s = .next t ∧ Finished distinct s t :=
  ⟨_, isTaken, takeCommand_finished h⟩

theorem finished_of_written {distinct : Prop} {c : Instr} {p : Port} {s : State} {effect : State → State}
    (isWritten : exec c s = .next (windowWrite p effect s)) (h : Finished distinct s (effect s)) :
    ∃ t, exec c s = .next t ∧ Finished distinct s t := ⟨_, isWritten, windowWrite_finished h⟩

theorem powerOnReset_finished (distinct ready : Prop) [Decidable ready] (s u : State) (requests : u.requests = [])
    (sequencer : u.sequencer = .reset) : Finished distinct s (if ready then riseReady u else u) := by
  have path : WorkPath distinct s u := path_step (.reset requests (by rw [sequencer]; rfl) (by
    rw [sequencer]
    exact fun inUse => inUse.elim nofun nofun))
  have quiet : Quiet u := fun _ => by rw [readyRequests, requests]; rfl
  split
  · cases riseReady_finished distinct (s := u) with
    | settled path' requests' sequencer' => exact .settled (path_trans path path') requests' sequencer'
    | plain path' keeps => exact .plain (path_trans path path') fun _ => keeps quiet
  · exact .plain path fun _ => quiet

theorem exec_finished (c : Instr) (s : State) : ∃ t, exec c s = .next t ∧ Finished (EntriesDistinct s) s t := by
  cases c with
  | powerOnReset ready wp a b c d => exact ⟨_, rfl, powerOnReset_finished _ _ s _ rfl rfl⟩
  | initAsserted p =>
    refine ⟨_, rfl, ?_⟩
    split
    · exact finished_refl _ s
    · exact finished_from (m := s.withInitLine (s.initLine.set p true)) rfl rfl (portReset_finished _ p _)
  | initNegated p => exact ⟨_, rfl, finished_frame rfl rfl⟩
  | reset p value => exact finished_of_written rfl (portReset_finished _ p s)
  | go p value =>
    refine finished_of_written rfl ?_
    dsimp only
    split <;> exact finished_frame rfl rfl
  | stagingWordWrite p offset value =>
    refine finished_of_written rfl ?_
    dsimp only
    split <;> exact finished_frame rfl rfl
  | statusWordWrite p value => exact finished_of_written rfl (finished_frame rfl rfl)
  | interruptEnableWordWrite p value => exact finished_of_written rfl (finished_frame rfl rfl)
  | windowBaseWordWrite p value => exact finished_of_written rfl (finished_frame rfl rfl)
  | responseWord0Read p => exact ⟨_, rfl, finished_frame rfl rfl⟩
  | completionPop p value => exact finished_of_written rfl (finished_frame rfl rfl)
  | noticePop p value => exact finished_of_written rfl (finished_frame rfl rfl)
  | read p => exact finished_of_taken rfl fun _ => decideTransfer_finished _ p _ s
  | write p => exact finished_of_taken rfl fun _ => decideTransfer_finished _ p _ s
  | verify p => exact finished_of_taken rfl fun _ => decideTransfer_finished _ p _ s
  | formatTrack p => exact finished_of_taken rfl fun _ => decideTransfer_finished _ p _ s
  | cancel p => exact finished_of_taken rfl fun _ => decideCancel_finished p _ id
  | acquire p => exact finished_of_taken rfl fun _ => finished_of_locksOnly (decideAcquire_locksOnly p _ s)
  | renew p => exact finished_of_taken rfl fun _ => finished_of_locksOnly (decideRenew_locksOnly p _ s)
  | release p => exact finished_of_taken rfl fun _ => finished_of_locksOnly (decideRelease_locksOnly p _ s)
  | forceRelease p => exact finished_of_taken rfl fun _ => decideForceRelease_finished p _ id
  | withdraw p => exact finished_of_taken rfl fun _ => finished_of_locksOnly (decideWithdraw_locksOnly p _ s)
  | watch p => exact finished_of_taken rfl fun _ => by rw [decideWatch_eq]; exact finished_frame rfl rfl
  | unwatch p => exact finished_of_taken rfl fun _ => by rw [decideUnwatch_eq]; exact finished_frame rfl rfl
  | claimToken p => exact finished_of_taken rfl fun _ => by rw [decideClaimToken_eq]; exact finished_frame rfl rfl
  | releaseToken p => exact finished_of_taken rfl fun _ => by rw [decideReleaseToken_eq]; exact finished_frame rfl rfl
  | setSetting p => exact finished_of_taken rfl fun _ => by rw [decideSetSetting_eq]; exact finished_frame rfl rfl
  | readSettings p => exact finished_of_taken rfl fun _ => finished_refl _ s
  | unknownCommand p => exact finished_of_taken rfl fun _ => finished_refl _ s
  | leaseTick => exact leaseTick_finished id
  | leaseExpiry i =>
    refine ⟨_, rfl, ?_⟩
    split
    · exact finished_settle (path_trans (tickLease_path id _) (path_of_locksOnly (reexamine_locksOnly _)))
    · exact finished_refl _ s
  | waitDenial slot =>
    refine ⟨_, rfl, ?_⟩
    split
    · exact finished_refl _ s
    · split
      · exact finished_of_locksOnly (locksOnly_trans (denyWaiter_locksOnly _ s) (reexamine_locksOnly _))
      · exact finished_refl _ s
  | posting p => exact ⟨_, rfl, postRecord_finished _ p s⟩
  | writeReport =>
    refine ⟨_, rfl, ?_⟩
    split
    · exact finished_refl _ s
    · rw [reportToPorts_eq]
      exact finished_frame rfl rfl
  | risingReady wp =>
    refine ⟨_, rfl, finished_from (m := senseWriteProtect wp s) rfl rfl ?_⟩
    split
    · exact finished_refl _ _
    · exact riseReady_finished _
  | fallingReady wp => exact fallingReady_finished _ wp s
  | index wp => exact index_finished _ wp s
  | blockMark wp => exact blockMark_finished _ wp s
  | headerRead wp field => exact headerRead_finished _ wp field s
  | dataFieldEnd wp field => exact dataFieldEnd_finished _ wp field s
  | seekDone wp => exact seekDone_finished _ wp s
  | positioningTimeLimit => exact positioningTimeLimit_finished _ s
  | settleExpiry => exact settleExpiry_finished _ s
  | faultHoldExpiry => exact faultHoldExpiry_finished _ s
  | busGrant p =>
    refine ⟨_, rfl, ?_⟩
    dsimp only
    split
    · split
      · exact finished_refl _ s
      · exact finished_frame rfl rfl
    · exact finished_refl _ s
  | burstEnd p words => exact burstEnd_finished _ p words s
  | hostBusTimeout p => exact hostBusTimeout_finished _ p s

theorem step_finished {s t : State} (next : step s = .next t) : Finished (EntriesDistinct s) s t := by
  rcases step_cases next with rfl | ⟨c, rest, run⟩
  · exact finished_refl _ t
  · obtain ⟨u, run', finished⟩ := exec_finished c (s.withPending rest)
    rw [run] at run'
    cases run'
    exact finished_from (m := s.withPending rest) rfl rfl finished

/-- Settles O57, by the path of every command's work. -/
theorem oneRequestIsServed : Obligations.OneRequestIsServed := fun _ _ h next => (step_finished next).oneServed h.1 h

/-- Settles O58, by the path of every command's work and the scheduler's runs at its end. -/
theorem idleLeavesNoReadyRequest : Obligations.IdleLeavesNoReadyRequest := fun _ _ h next => (step_finished next).workConserving h

end Sys2Proof.Machine
end

section
/-! The cessation of a lock, as the Request Table and the sequencer show it: what one report, with the stop it asks, makes of every entry
(chapters 2 and 4). -/

namespace Sys2Proof.Machine

open Sys2Proof.Safety

/-! ### The end of the served request and the other entries -/

/-- An entry as it stands later: with its identity and progress, and READY at most where it was WAITING. -/
structure Carried (q u : Request) : Prop where
  index : u.index = q.index
  port : u.port = q.port
  extent : u.extent = q.extent
  blocksDone : u.blocksDone = q.blocksDone
  mediumCount : u.mediumCount = q.mediumCount
  state : u.state = q.state ∨ (q.state = .waiting ∧ u.state = .ready)

theorem carried_of_loosened {q u : Request} (h : Loosened q u) : Carried q u := by
  exact ⟨by rw [h.same], by rw [h.same], by rw [h.same]; rfl, by rw [h.same], by rw [h.same], h.state⟩

theorem carried_refl (q : Request) : Carried q q := ⟨rfl, rfl, rfl, rfl, rfl, .inl rfl⟩

theorem carried_of_same {q u : Request} (h : SameEntry q u) (state : u.state = q.state) : Carried q u :=
  ⟨h.index, h.port, by rw [Request.extent, Request.extent, Request.last, Request.last, h.first, h.count], h.blocksDone, h.mediumCount,
    .inl state⟩

theorem carried_trans {q u w : Request} (h : Carried q u) (k : Carried u w) : Carried q w := by
  refine ⟨k.index.trans h.index, k.port.trans h.port, k.extent.trans h.extent, k.blocksDone.trans h.blocksDone,
    k.mediumCount.trans h.mediumCount, ?_⟩
  rcases k.state with same | ⟨waiting, ready⟩
  · rw [same]
    exact h.state
  · rcases h.state with same | ⟨_, ready'⟩
    · exact .inr ⟨same ▸ waiting, ready⟩
    · rw [ready'] at waiting
      cases waiting

theorem carried_state {q u : Request} (h : Carried q u) (notWaiting : q.state ≠ .waiting) : u.state = q.state :=
  h.state.resolve_right fun k => notWaiting k.1

theorem carried_inside {owner : Port} {extent : Extent} {q u : Request} (h : Carried q u) :
    Inside owner extent u ↔ Inside owner extent q := by
  rw [Inside, Inside, h.port, h.extent]

theorem enterHeld_other {s : State} {i : Nat} {q : Request} (mem : q ∈ s.requests) (other : q.index ≠ i) (status : Status)
    (failing : Option Nat) : ∃ u ∈ (enterHeld i status failing s).requests, Loosened q u := by
  cases found : findRequest s i with
  | none =>
    rw [enterHeld_of_none found]
    exact ⟨q, mem, loosened_refl q⟩
  | some r =>
    rw [enterHeld_requests found]
    exact ⟨_, List.mem_map_of_mem mem, heldEntry_other other status failing⟩

theorem freeRequest_other {s : State} {i : Nat} {q : Request} (mem : q ∈ s.requests) (other : q.index ≠ i) :
    ∃ u ∈ (freeRequest i s).requests, Loosened q u := by
  rw [freeRequest_requests]
  exact ⟨_, List.mem_map_of_mem (List.mem_filter.mpr ⟨mem, decide_eq_true other⟩), dropDependency_loosened i q⟩

/-- The end of one request loosens the entry of another at most. -/
theorem applyEnd_other {s : State} {r : Request} {q : Request} (mem : q ∈ s.requests) (other : q.index ≠ r.index) (v : Service)
    (e : MediumEnd) : ∃ u ∈ (applyEnd r v e s).requests, Loosened q u := by
  have active : ∀ status failing, ∃ u ∈ (endActive r v status failing s).requests, Loosened q u := fun status failing => by
    rcases endActive_cases r v status failing s with ⟨_, _, result⟩ | ⟨_, result⟩
    · rw [result, draining_requests]
      refine ⟨_, List.mem_map_of_mem mem, ?_⟩
      rw [if_neg other]
      exact dropDependency_loosened _ _
    · rw [result, makeWriteReport_requests]
      exact enterHeld_other mem other _ _
  unfold applyEnd
  split
  · exact freeRequest_other mem other
  · rw [makeWriteReport_requests]
    exact enterHeld_other mem other _ _
  · split
    · exact active _ _
    · exact active _ _
    · exact ⟨q, mem, loosened_refl q⟩
  · exact ⟨q, mem, loosened_refl q⟩

theorem endOnMedium_other {s : State} {v : Service} (service : s.sequencer.service = some v) {q : Request} (mem : q ∈ s.requests)
    (other : q.index ≠ v.entry) (e : MediumEnd) (next : SequencerState) : ∃ u ∈ (endOnMedium e next s).requests, Loosened q u := by
  have raised : q ∈ (raiseRetries v.entry (e.retries v) (closeService v next s)).requests :=
    List.mem_map.mpr ⟨q, mem, if_neg other⟩
  unfold endOnMedium
  simp only [service]
  split
  · exact ⟨q, raised, loosened_refl q⟩
  · next r found =>
    exact applyEnd_other raised (by rw [(findRequest_some found).2]; exact other) v e

/-- An entry off the medium is carried through the end of the served request. -/
theorem endOnMedium_unserved_carried {s : State} (distinct : EntriesDistinct s) {q : Request} (mem : q ∈ s.requests)
    (unserved : served q = false) (e : MediumEnd) (next : SequencerState) :
    ∃ u ∈ (endOnMedium e next s).requests, Carried q u := by
  cases service : s.sequencer.service with
  | none =>
    simp only [endOnMedium, service]
    exact ⟨q, mem, carried_refl q⟩
  | some v =>
    by_cases own : q.index = v.entry
    · have found := findRequest_of_mem distinct mem
      rw [own] at found
      have raised := findRequest_raised found rfl (e.retries v) next
      rw [endOnMedium_eq service found]
      have idle : applyEnd (raisedEntry (e.retries v) q) v e (raiseRetries v.entry (e.retries v) (closeService v next s)) =
          raiseRetries v.entry (e.retries v) (closeService v next s) := by
        have state : (raisedEntry (e.retries v) q).state = q.state := rfl
        have notServed := fun k => Bool.false_ne_true (unserved.symm.trans ((served_iff q).mpr k))
        unfold applyEnd
        rw [state]
        split
        · next orphaned => exact absurd (.inr orphaned) notServed
        · next active => exact absurd (.inl ⟨_, active⟩) notServed
        · next active => exact absurd (.inl ⟨_, active⟩) notServed
        · rfl
      rw [idle]
      exact ⟨raisedEntry (e.retries v) q, (findRequest_some raised).1, ⟨rfl, rfl, rfl, rfl, rfl, .inl rfl⟩⟩
    · obtain ⟨u, hu, loosened⟩ := endOnMedium_other service mem own e next
      exact ⟨u, hu, carried_of_loosened loosened⟩

theorem takeStop_cases (s : State) : takeStop s = s ∨ takeStop s = endOnMedium .stopped .idle s := by
  cases h : stopsAtOnce s with
  | true => exact .inr (takeStop_of_atOnce h)
  | false => exact .inl (takeStop_of_pending h)

theorem takeStop_unserved_carried {s : State} (distinct : EntriesDistinct s) {q : Request} (mem : q ∈ s.requests)
    (unserved : served q = false) : ∃ u ∈ (takeStop s).requests, Carried q u := by
  rcases takeStop_cases s with same | ended
  · rw [same]
    exact ⟨q, mem, carried_refl q⟩
  · rw [ended]
    exact endOnMedium_unserved_carried distinct mem unserved _ _

/-! ### One cessation -/

/-- A request is HELD with LOCK LOST and waits in its port's list. -/
def Lost (t : State) (r : Request) : Prop :=
  (∃ q ∈ t.requests, q.index = r.index ∧ q.state = .held .lockLost none ∧ q.blocksDone = r.blocksDone) ∧
    OwnerRef.request r.index ∈ t.pendingRecords.get r.port

/-- The state in which the Request Table has taken a lock-cessation report with the stop it asks; `join` is what the lock's own entry
does to the lists in between. -/
def ceased (owner : Port) (extent : Extent) (join : State → State) (s : State) : State :=
  cessationStop (cessationStops owner extent s) (join (lockCessation owner extent s))

/-- What joins a pending-record list leaves the rest, and every item that stands in a list. -/
structure Joins (join : State → State) : Prop where
  requests : ∀ s, (join s).requests = s.requests
  sequencer : ∀ s, (join s).sequencer = s.sequencer
  drive : ∀ s, (join s).drive = s.drive
  pendingRecords : ∀ s p item, item ∈ s.pendingRecords.get p → item ∈ (join s).pendingRecords.get p

theorem joins_id : Joins id := ⟨fun _ => rfl, fun _ => rfl, fun _ => rfl, fun _ _ _ h => h⟩

theorem joins_joinPending (p : Port) (item : OwnerRef) : Joins (joinPending p item) :=
  ⟨fun _ => rfl, fun _ => rfl, fun _ => rfl, fun s => (joinPending_kept p item s).pendingRecords⟩

section
variable {owner : Port} {extent : Extent} {join : State → State} {s : State}

theorem lockCessation_distinct (distinct : EntriesDistinct s) : EntriesDistinct (lockCessation owner extent s) :=
  entriesDistinct_of_kept (lockCessation_kept _ _ s) distinct

theorem ceased_kept (joins : Joins join) (s : State) :
    (∀ p item, item ∈ s.pendingRecords.get p → item ∈ (ceased owner extent join s).pendingRecords.get p) ∧
      (EntriesDistinct s → EntriesDistinct (ceased owner extent join s)) := by
  have stop := cessationStop_kept (cessationStops owner extent s) (join (lockCessation owner extent s))
  refine ⟨fun p item mem => ?_, fun distinct => ?_⟩
  · exact stop.pendingRecords p item (joins.pendingRecords _ p item ((lockCessation_kept owner extent s).pendingRecords p item mem))
  · exact entriesDistinct_of_kept stop (entriesDistinct_congr (joins.requests _) (lockCessation_distinct distinct))

theorem ceased_path (joins : Joins join) (distinct : EntriesDistinct s) :
    WorkPath (EntriesDistinct s) s (ceased owner extent join s) :=
  path_trans (lockCessation_path _ owner extent s) (path_trans (path_frame (joins.requests _) (joins.sequencer _))
    (cessationStop_path (fun _ => distinct) (joins.sequencer _)))

/-- An entry off the medium after the report is carried through the stop. -/
theorem ceased_unserved (joins : Joins join) (distinct : EntriesDistinct s) {q : Request}
    (mem : q ∈ (lockCessation owner extent s).requests) (unserved : served q = false) :
    ∃ u ∈ (ceased owner extent join s).requests, Carried q u := by
  have mem' : q ∈ (join (lockCessation owner extent s)).requests := by
    rw [joins.requests]
    exact mem
  unfold ceased cessationStop
  split
  · exact takeStop_unserved_carried (entriesDistinct_congr (joins.requests _) (lockCessation_distinct distinct)) mem' unserved
  · exact ⟨q, mem', carried_refl q⟩

theorem ceased_past (joins : Joins join) (distinct : EntriesDistinct s) {q : Request} (mem : q ∈ s.requests)
    (unserved : served q = false) (past : q.awaits = false) : ∃ u ∈ (ceased owner extent join s).requests, Carried q u := by
  have notAwaits := fun k => Bool.false_ne_true (past.symm.trans ((awaits_iff q).mpr k))
  have notActive : q.state ≠ .active none := fun state =>
    Bool.false_ne_true (unserved.symm.trans ((served_iff q).mpr (.inl ⟨_, state⟩)))
  obtain ⟨u, hu, same, state⟩ := cessation_keeps (owner := owner) (extent := extent) _ distinct mem
    ⟨fun k => notAwaits (.inl k), fun k => notAwaits (.inr k), notActive⟩
  have carried := carried_of_same same state
  obtain ⟨w, hw, carried'⟩ := ceased_unserved joins distinct hu (by
    unfold served Request.isActive at unserved ⊢
    rw [state]
    exact unserved)
  exact ⟨w, hw, carried_trans carried carried'⟩

/-- A WAITING or READY request inside is lost. -/
theorem ceased_lost (joins : Joins join) (distinct : EntriesDistinct s) {r : Request} (mem : r ∈ s.requests)
    (inside : Inside owner extent r) (awaits : r.awaits = true) : Lost (ceased owner extent join s) r := by
  obtain ⟨⟨q, hq, index, _, _, state, done, _, _⟩, waits⟩ := cessation_held (s.requests.map Request.index) distinct mem inside
    ((awaits_iff r).mp awaits) (List.mem_map_of_mem mem)
  obtain ⟨u, hu, carried⟩ := ceased_unserved (join := join) joins distinct hq (by rw [served, Request.isActive, state]; rfl)
  refine ⟨⟨u, hu, carried.index.trans index, (carried_state carried (by rw [state]; exact nofun)).trans state,
    carried.blocksDone.trans done⟩, ?_⟩
  exact (cessationStop_kept _ _).pendingRecords _ _ (joins.pendingRecords _ _ _ waits)

/-- The entry of an outside request is loosened at most by the report. -/
theorem cessation_outside (l : List Nat) {s : State} (distinct : EntriesDistinct s) {q : Request} (mem : q ∈ s.requests)
    (outside : ¬ Inside owner extent q) : ∃ u ∈ (l.foldl (cessationOf owner extent) s).requests, Loosened q u := by
  induction l generalizing s q with
  | nil => exact ⟨q, mem, loosened_refl q⟩
  | cons i l ih =>
    obtain ⟨u, hu, loosened⟩ : ∃ u ∈ (cessationOf owner extent s i).requests, Loosened q u := by
      by_cases own : q.index = i
      · have found := findRequest_of_mem distinct mem
        rw [own] at found
        rcases cessationOf_cases owner extent s i with ⟨r, h, inside, _⟩ | ⟨r, h, inside, _⟩ | ⟨same, _⟩
        · rw [found] at h
          cases h
          exact absurd inside outside
        · rw [found] at h
          cases h
          exact absurd inside outside
        · rw [same]
          exact ⟨q, mem, loosened_refl q⟩
      · exact cessationOf_other mem own
    have outside' : ¬ Inside owner extent u := by rwa [carried_inside (carried_of_loosened loosened)]
    obtain ⟨w, hw, loosened'⟩ := ih (cessationOf_distinct i distinct) hu outside'
    exact ⟨w, hw, loosened_trans loosened loosened'⟩

theorem ceased_outside (joins : Joins join) (distinct : EntriesDistinct s) {q : Request} (mem : q ∈ s.requests)
    (outside : ¬ Inside owner extent q) (awaits : q.awaits = true) :
    ∃ u ∈ (ceased owner extent join s).requests, Carried q u := by
  obtain ⟨u, hu, loosened⟩ := cessation_outside (s.requests.map Request.index) distinct mem outside
  obtain ⟨w, hw, carried⟩ := ceased_unserved joins distinct hu
    ((loosened_served loosened).2 (unserved_of_awaits ((awaits_iff q).mp awaits)))
  exact ⟨w, hw, carried_trans (carried_of_loosened loosened) carried⟩

/-- Of the entries on the medium of a sound table there is one. -/
theorem served_unique (h : OneServed s) {r q : Request} (hr : r ∈ s.requests) (hq : q ∈ s.requests) (servedR : served r = true)
    (servedQ : served q = true) : r = q := by
  obtain ⟨v, _, isEntry, _, part, _⟩ := agreed_of_found h (findRequest_of_mem h.1 hr) servedR
  have part' : (q.index, q.state) ∈ servedPart s.requests := mem_servedPart.mpr ⟨q, hq, servedQ, rfl, rfl⟩
  rw [part] at part'
  exact entry_unique h.1 hr hq (congrArg Prod.fst (List.mem_singleton.mp part')).symm

theorem served_of_active {r : Request} {stop : Option Status} (h : r.state = .active stop) : served r = true :=
  (served_iff r).mpr (.inl ⟨_, h⟩)

/-- A report that asks no stop leaves the sequencer, the drive and the request on the medium. -/
theorem ceased_unasked (joins : Joins join) (stops : cessationStops owner extent s = false) :
    ceased owner extent join s = join (lockCessation owner extent s) ∧
      (ceased owner extent join s).sequencer = s.sequencer ∧ (ceased owner extent join s).drive = s.drive := by
  have result : ceased owner extent join s = join (lockCessation owner extent s) := by
    unfold ceased
    rw [stops]
    rfl
  refine ⟨result, ?_, ?_⟩
  · rw [result, joins.sequencer]
    exact cessation_unasked _ stops
  · rw [result, joins.drive]
    exact (cessation_sequencer owner extent _ s).2

/-- With a stop pending of the request on the medium, or an orphan there, a report leaves it and the sequencer. -/
theorem ceased_standing (joins : Joins join) (h : OneServed s) {r : Request} (mem : r ∈ s.requests) (isServed : served r = true)
    (notActive : r.state ≠ .active none) : (∃ u ∈ (ceased owner extent join s).requests, SameEntry r u ∧ u.state = r.state) ∧
      (ceased owner extent join s).sequencer = s.sequencer := by
  have stops : cessationStops owner extent s = false := Bool.eq_false_iff.mpr fun stops => by
    obtain ⟨q, hq, _, state⟩ := cessationStops_iff.mp stops
    exact notActive (served_unique h mem hq isServed (served_of_active state) ▸ state)
  obtain ⟨result, sequencer, _⟩ := ceased_unasked joins stops
  refine ⟨?_, sequencer⟩
  have notAwaits : r.state ≠ .waiting ∧ r.state ≠ .ready := by
    rcases (served_iff r).mp isServed with ⟨stop, state⟩ | state <;> rw [state] <;> exact ⟨nofun, nofun⟩
  obtain ⟨u, hu, same⟩ := cessation_keeps (owner := owner) (extent := extent) (s.requests.map Request.index) h.1 mem
    ⟨notAwaits.1, notAwaits.2, notActive⟩
  refine ⟨u, ?_, same⟩
  rw [result, joins.requests]
  exact hu

/-- The ACTIVE request of the table, when the report does not reach it, stands with the sequencer as it was. -/
theorem ceased_untouched (joins : Joins join) (h : OneServed s) {r : Request} (mem : r ∈ s.requests) (state : r.state = .active none)
    (outside : ¬ Inside owner extent r) : (∃ u ∈ (ceased owner extent join s).requests, SameEntry r u ∧ u.state = r.state ∧
        ∀ owner' extent', Inside owner' extent' u ↔ Inside owner' extent' r) ∧
      (ceased owner extent join s).sequencer = s.sequencer ∧ (ceased owner extent join s).drive = s.drive := by
  have stops : cessationStops owner extent s = false := Bool.eq_false_iff.mpr fun stops => by
    obtain ⟨q, hq, inside, state'⟩ := cessationStops_iff.mp stops
    exact outside (served_unique h mem hq (served_of_active state) (served_of_active state') ▸ inside)
  obtain ⟨result, frame⟩ := ceased_unasked joins stops
  refine ⟨?_, frame⟩
  obtain ⟨u, hu, loosened⟩ := cessation_outside (owner := owner) (extent := extent) (s.requests.map Request.index) h.1 mem outside
  refine ⟨u, ?_, sameEntry_of_loosened loosened, loosened_state loosened (by rw [state]; exact nofun),
    fun _ _ => carried_inside (carried_of_loosened loosened)⟩
  rw [result, joins.requests]
  exact hu

theorem heldWith_of_same {t : State} {r u : Request} {status : Status} {failing : Option Nat} {n : Nat} (same : SameEntry r u)
    (h : HeldWith t u status failing n) : HeldWith t r status failing n := by
  unfold HeldWith at h ⊢
  rwa [same.index, same.port, same.tag, same.blocksDone, same.mediumCount, same.retriesUsed] at h

/-- The ACTIVE request inside, with no stop pending, is asked to stop. -/
theorem ceased_stopAsked (joins : Joins join) (h : OneServed s) {r : Request} (mem : r ∈ s.requests) (inside : Inside owner extent r)
    (state : r.state = .active none) {v : Service} (service : s.sequencer.service = some v) :
    StopAsked s (ceased owner extent join s) r v .lockLost := by
  have stops : cessationStops owner extent s = true := cessationStops_iff.mpr ⟨r, mem, inside, state⟩
  obtain ⟨w, isService, isEntry, _, _, _⟩ := agreed_of_found h (findRequest_of_mem h.1 mem) (served_of_active state)
  rw [service] at isService
  cases isService
  obtain ⟨⟨u, hu, same, state'⟩, asked⟩ := cessation_stopped (owner := owner) (extent := extent) (s.requests.map Request.index) h.1 mem
    inside state (List.mem_map_of_mem mem)
  obtain ⟨turned, drive⟩ := cessation_sequencer owner extent (s.requests.map Request.index) s
  have sequencer : (lockCessation owner extent s).sequencer = { s.sequencer with service := some { v with stopAsked := true } } := by
    rcases turned with turned | turned
    · have already : v.stopAsked = true := asked v (by rw [turned]; exact service)
      have same : ({ v with stopAsked := true } : Service) = v := by rw [← already]
      refine turned.trans ?_
      rw [same, ← service]
    · refine turned.trans ?_
      unfold askedService
      rw [service]
      rfl
  have sequencer' : (join (lockCessation owner extent s)).sequencer = { s.sequencer with service := some { v with stopAsked := true } } :=
    (joins.sequencer _).trans sequencer
  have atOnce : stopsAtOnce (join (lockCessation owner extent s)) = stopsAtOnce s :=
    stopsAtOnce_congr (by rw [sequencer']) ((joins.drive _).trans drive)
  have result : ceased owner extent join s = takeStop (join (lockCessation owner extent s)) := by
    unfold ceased
    rw [stops]
    rfl
  have mem' : u ∈ (join (lockCessation owner extent s)).requests := by
    rw [joins.requests]
    exact hu
  rw [result]
  constructor
  · intro now
    rw [takeStop_of_atOnce (atOnce.trans now)]
    have distinct' : EntriesDistinct (join (lockCessation owner extent s)) :=
      entriesDistinct_congr (joins.requests _) (lockCessation_distinct h.1)
    have found := findRequest_of_mem distinct' mem'
    rw [same.index, ← isEntry] at found
    have ended := (endOnMedium_endedAs (e := .stopped) (v := { v with stopAsked := true }) (by rw [sequencer']) found
      (served_of_active state') (fun k => by rw [state'] at k; cases k) .idle).1
    unfold EndedAs at ended
    rw [state'] at ended
    exact heldWith_of_same same ended
  · intro later
    rw [takeStop_of_pending (atOnce.trans later)]
    exact ⟨⟨u, mem', same.index, same.port, same.tag, state', same.blocksDone, same.mediumCount, same.retriesUsed⟩, sequencer'⟩

/-- An entry HELD stands through another cessation. -/
theorem ceased_heldWith (joins : Joins join) (h : OneServed s) {r : Request} {status : Status} {failing : Option Nat} {n : Nat}
    (held : HeldWith s r status failing n) : HeldWith (ceased owner extent join s) r status failing n := by
  obtain ⟨⟨q, hq, index, port, tag, state, done, count, retries⟩, waits⟩ := held
  have past : q.state ≠ .waiting ∧ q.state ≠ .ready ∧ q.state ≠ .active none := by rw [state]; exact ⟨nofun, nofun, nofun⟩
  obtain ⟨u, hu, same, state'⟩ := cessation_keeps (owner := owner) (extent := extent) (s.requests.map Request.index) h.1 hq past
  have hu' : u ∈ (join (lockCessation owner extent s)).requests := by
    rw [joins.requests]
    exact hu
  have unserved : served u = false := by rw [served, Request.isActive, state', state]; rfl
  have one : OneServed (join (lockCessation owner extent s)) :=
    oneServed_of_frame ((lockCessation_path _ owner extent s).oneServed h.1 h) (joins.requests _) (joins.sequencer _)
  obtain ⟨w, hw, same', state''⟩ : ∃ w ∈ (ceased owner extent join s).requests, SameEntry u w ∧ w.state = u.state := by
    unfold ceased cessationStop
    split
    · rcases takeStop_cases (join (lockCessation owner extent s)) with unchanged | ended
      · rw [unchanged]
        exact ⟨u, hu', sameEntry_refl u, rfl⟩
      · rw [ended]
        cases service : (join (lockCessation owner extent s)).sequencer.service with
        | none =>
          simp only [endOnMedium, service]
          exact ⟨u, hu', sameEntry_refl u, rfl⟩
        | some v =>
          have other : u.index ≠ v.entry := fun own => by
            obtain ⟨_, agreed⟩ := (oneServed_iff _).mp one
            rcases agreed_cases agreed with ⟨_, key, _⟩ | ⟨w, stands, _, isService, part, matching⟩
            · rw [service] at key
              cases key
            · rw [service] at isService
              cases isService
              obtain ⟨x, hx, servedX, indexX, _⟩ := mem_servedPart.mp (part ▸ List.mem_singleton_self (v.entry, stands))
              have := entry_unique one.1 hu' hx (own.trans indexX.symm)
              rw [← this, unserved] at servedX
              cases servedX
          obtain ⟨w, hw, loosened⟩ := endOnMedium_other service hu' other .stopped .idle
          exact ⟨w, hw, sameEntry_of_loosened loosened, loosened_state loosened (by rw [state']; exact past.1)⟩
    · exact ⟨u, hu', sameEntry_refl u, rfl⟩
  have all := sameEntry_trans same same'
  exact ⟨⟨w, hw, all.index.trans index, all.port.trans port, all.tag.trans tag, (state''.trans state').trans state,
    all.blocksDone.trans done, all.mediumCount.trans count, all.retriesUsed.trans retries⟩, (ceased_kept joins s).1 _ _ waits⟩

end

end Sys2Proof.Machine
end

section
/-! FORCE RELEASE, the expiry of a lease and the lease tick: the locks that end, and what becomes of their owners' requests (chapters 2
to 4). -/

namespace Sys2Proof.Machine

open Sys2Proof.Safety

/-! ### What has become of a request -/

/-- A request stands in its state, with the sequencer as it was when the request is on the medium. -/
def Stands (s w : State) (r : Request) : Prop :=
  (∃ q ∈ w.requests, q.index = r.index ∧ q.state = r.state ∧ q.blocksDone = r.blocksDone ∧ q.mediumCount = r.mediumCount) ∧
    (served r = true → w.sequencer = s.sequencer)

theorem rests_of_entry {w : State} (distinct : EntriesDistinct w) {q : Request} (mem : q ∈ w.requests) (past : q.awaits = false) :
    Rests q.index w := fun u hu same => by
  rw [entry_unique distinct hu mem same]
  have notAwaits := fun k => Bool.false_ne_true (past.symm.trans ((awaits_iff q).mpr k))
  exact ⟨fun k => notAwaits (.inl k), fun k => notAwaits (.inr k)⟩

/-- An entry past the scheduler's reach stands through the end of an event. -/
theorem settle_entry {w : State} (distinct : EntriesDistinct w) {q : Request} (mem : q ∈ w.requests) (past : q.awaits = false) :
    ∃ u ∈ (settle w).requests, SameEntry q u ∧ u.state = q.state :=
  rescheduled_entry (settle_rescheduled w) mem (rests_of_entry distinct mem past)

theorem awaits_of_held {q : Request} {status : Status} {failing : Option Nat} (h : q.state = .held status failing) : q.awaits = false := by
  rw [Request.awaits, h]

theorem settle_lost {w : State} (distinct : EntriesDistinct w) {r : Request} (h : Lost w r) : Lost (settle w) r := by
  obtain ⟨⟨q, hq, index, state, done⟩, waits⟩ := h
  obtain ⟨u, hu, same, state'⟩ := settle_entry distinct hq (awaits_of_held state)
  exact ⟨⟨u, hu, same.index.trans index, state'.trans state, same.blocksDone.trans done⟩,
    (settle_rescheduled w).pendingRecords _ _ waits⟩

theorem settle_holds {w : State} (distinct : EntriesDistinct w) {r : Request} {status : Status} {failing : Option Nat} {n : Nat}
    (h : HeldWith w r status failing n) : HeldWith (settle w) r status failing n := by
  have ⟨⟨q, hq, index, _, _, state, _⟩, _⟩ := h
  exact rescheduled_heldWith (settle_rescheduled w) (index ▸ rests_of_entry distinct hq (awaits_of_held state)) h

/-- The sequencer of a sound table that serves a request is not IDLE. -/
theorem notIdle_of_service {s : State} (h : OneServed s) {v : Service} (service : s.sequencer.service = some v) :
    s.sequencer.state ≠ .idle := fun idle => by
  have present := h.2.1
  unfold ServicePresent at present
  rw [service, idle] at present
  cases present

theorem settle_stopAsked {s w : State} (one : OneServed s) (distinct : EntriesDistinct w) {r : Request} {v : Service} {reason : Status}
    (service : s.sequencer.service = some v) (h : StopAsked s w r v reason) : StopAsked s (settle w) r v reason := by
  refine ⟨fun now => settle_holds distinct (h.atOnce now), fun later => ?_⟩
  obtain ⟨entry, sequencer⟩ := h.pending later
  have quiet := settle_quiet (s := w) (quiet_of_state (by rw [sequencer]) (notIdle_of_service one service))
  rw [quiet.requests, quiet.drive.sequencer]
  exact ⟨entry, sequencer⟩

theorem notIdle_of_served {s : State} (one : OneServed s) {r : Request} (mem : r ∈ s.requests) (isServed : served r = true) :
    s.sequencer.state ≠ .idle := by
  obtain ⟨v, service, _⟩ := agreed_of_found one (findRequest_of_mem one.1 mem) isServed
  exact notIdle_of_service one service

theorem settle_stands {s w : State} (one : OneServed s) (distinct : EntriesDistinct w) {r : Request} (mem : r ∈ s.requests)
    (past : r.awaits = false) (h : Stands s w r) : Stands s (settle w) r := by
  obtain ⟨⟨q, hq, index, state, done, count⟩, sequencer⟩ := h
  refine ⟨?_, fun isServed => ?_⟩
  · obtain ⟨u, hu, same, state'⟩ := settle_entry distinct hq ((awaits_congr state).trans past)
    exact ⟨u, hu, same.index.trans index, state'.trans state, same.blocksDone.trans done, same.mediumCount.trans count⟩
  · have isSame := sequencer isServed
    have quiet := settle_quiet (s := w) (quiet_of_state (by rw [isSame]) (notIdle_of_served one mem isServed))
    exact quiet.drive.sequencer.trans isSame

/-- Nothing that the requests or the sequencer show differs, and no item has left a list. -/
structure RequestsSame (s t : State) : Prop where
  requests : t.requests = s.requests
  sequencer : t.sequencer = s.sequencer
  drive : t.drive = s.drive
  pendingRecords : ∀ p item, item ∈ s.pendingRecords.get p → item ∈ t.pendingRecords.get p

theorem requestsSame_trans {s t u : State} (h : RequestsSame s t) (k : RequestsSame t u) : RequestsSame s u :=
  ⟨k.requests.trans h.requests, k.sequencer.trans h.sequencer, k.drive.trans h.drive,
    fun p item mem => k.pendingRecords p item (h.pendingRecords p item mem)⟩

theorem requestsSame_refl (s : State) : RequestsSame s s := ⟨rfl, rfl, rfl, fun _ _ h => h⟩

theorem requestsSame_of_locksOnly {s t : State} (h : LocksOnly s t)
    (pendingRecords : ∀ p item, item ∈ s.pendingRecords.get p → item ∈ t.pendingRecords.get p) : RequestsSame s t :=
  ⟨locksOnly_requests h, locksOnly_sequencer h, by rw [h]; rfl, pendingRecords⟩

theorem reexamine_requestsSame (s : State) : RequestsSame s (reexamine s) :=
  requestsSame_of_locksOnly (reexamine_locksOnly s) fun p item mem => by
    obtain ⟨granted, result, _⟩ := (reexamine_grantedFrom s).pendingRecords p
    rw [result]
    exact List.mem_append_left _ mem

theorem lost_of_same {s t : State} (h : RequestsSame s t) {r : Request} (k : Lost s r) : Lost t r := by
  obtain ⟨entry, waits⟩ := k
  refine ⟨?_, h.pendingRecords _ _ waits⟩
  rw [h.requests]
  exact entry

theorem heldWith_of_requestsSame {s t : State} (h : RequestsSame s t) {r : Request} {status : Status} {failing : Option Nat} {n : Nat}
    (k : HeldWith s r status failing n) : HeldWith t r status failing n := by
  obtain ⟨entry, waits⟩ := k
  refine ⟨?_, h.pendingRecords _ _ waits⟩
  rw [h.requests]
  exact entry

theorem stopAsked_of_same {s w t : State} (h : RequestsSame w t) {r : Request} {v : Service} {reason : Status}
    (k : StopAsked s w r v reason) : StopAsked s t r v reason :=
  ⟨fun now => heldWith_of_requestsSame h (k.atOnce now), fun later => by
    rw [h.requests, h.sequencer]
    exact k.pending later⟩

theorem stands_of_same {s w t : State} (h : RequestsSame w t) {r : Request} (k : Stands s w r) : Stands s t r := by
  unfold Stands
  rw [h.requests, h.sequencer]
  exact k

/-- What has become of the owner's requests with a block inside, once the lock has ceased. -/
structure OwnerTold (s w : State) (owner : Port) (extent : Extent) : Prop where
  waiting : ∀ r ∈ s.requests, Inside owner extent r → r.awaits = true → Lost w r
  active : OneServed s → ∀ r ∈ s.requests, ∀ v, Inside owner extent r → r.state = .active none → s.sequencer.service = some v →
    StopAsked s w r v .lockLost
  standing : OneServed s → ∀ r ∈ s.requests, Inside owner extent r → r.awaits = false → r.state ≠ .active none → Stands s w r

theorem ownerTold_of_same {s w t : State} {owner : Port} {extent : Extent} (h : RequestsSame w t) (k : OwnerTold s w owner extent) :
    OwnerTold s t owner extent :=
  ⟨fun r mem inside awaits => lost_of_same h (k.waiting r mem inside awaits),
    fun one r mem v inside state service => stopAsked_of_same h (k.active one r mem v inside state service),
    fun one r mem inside past state => stands_of_same h (k.standing one r mem inside past state)⟩

theorem ownerTold_settle {s w : State} {owner : Port} {extent : Extent} (distinct : EntriesDistinct w) (k : OwnerTold s w owner extent) :
    OwnerTold s (settle w) owner extent :=
  ⟨fun r mem inside awaits => settle_lost distinct (k.waiting r mem inside awaits),
    fun one r mem v inside state service => settle_stopAsked one distinct service (k.active one r mem v inside state service),
    fun one r mem inside past state => settle_stands one distinct mem past (k.standing one r mem inside past state)⟩

/-- A lock has ceased when its entry has ended and its owner's requests have been told. -/
theorem lockCeased_of_told {s t : State} {i : Nat} {lock : Lock} {kind : EndKind}
    (entry : lockAt t i = ⟨(lockAt s i).generation, .ended lock kind⟩) (told : OwnerTold s t lock.owner lock.extent) :
    LockCeased s t i lock kind := by
  refine ⟨entry, fun r mem own overlaps awaits => told.waiting r mem ⟨own, overlaps⟩ ((awaits_iff r).mpr awaits),
    fun one r mem v own overlaps state service => told.active one r mem v ⟨own, overlaps⟩ state service,
    fun one r mem own overlaps notWaiting notReady notActive => ?_⟩
  exact told.standing one r mem ⟨own, overlaps⟩
    (Bool.eq_false_iff.mpr fun awaits => ((awaits_iff r).mp awaits).elim notWaiting notReady) notActive

theorem lockCeased_congr {s t u : State} {i : Nat} {lock : Lock} {kind : EndKind} (locks : u.locks = t.locks)
    (requests : u.requests = t.requests) (records : u.pendingRecords = t.pendingRecords) (sequencer : u.sequencer = t.sequencer)
    (h : LockCeased s t i lock kind) : LockCeased s u i lock kind := by
  obtain ⟨entry, waiting, active, standing⟩ := h
  refine ⟨(lockAt_congr locks i).trans entry, ?_, fun one r mem v own overlaps state service => ?_, ?_⟩
  · rw [requests, records]
    exact waiting
  · obtain ⟨now, later⟩ := active one r mem v own overlaps state service
    refine ⟨fun h => heldWith_congr requests records (now h), ?_⟩
    rw [requests, sequencer]
    exact later
  · rw [requests, sequencer]
    exact standing

/-! ### What one cessation makes of it -/

section
variable {owner : Port} {extent : Extent} {join : State → State}

theorem stands_of_ceased (joins : Joins join) {s c : State} (same : RequestsSame s c) (h : OneServed c) {r : Request} {q : Request}
    (hq : q ∈ c.requests) (index : q.index = r.index) (state : q.state = r.state) (done : q.blocksDone = r.blocksDone)
    (count : q.mediumCount = r.mediumCount) (past : r.awaits = false) (notActive : r.state ≠ .active none) :
    Stands s (ceased owner extent join c) r := by
  have pastQ : q.awaits = false := (awaits_congr state).trans past
  cases isServed : served q with
  | true =>
    obtain ⟨⟨u, hu, sameEntry, state'⟩, sequencer⟩ := ceased_standing (owner := owner) (extent := extent) joins h hq isServed
      (by rw [state]; exact notActive)
    exact ⟨⟨u, hu, sameEntry.index.trans index, state'.trans state, sameEntry.blocksDone.trans done,
      sameEntry.mediumCount.trans count⟩, fun _ => sequencer.trans same.sequencer⟩
  | false =>
    obtain ⟨u, hu, carried⟩ := ceased_past (owner := owner) (extent := extent) joins h.1 hq isServed pastQ
    have notWaiting : q.state ≠ .waiting := fun k => Bool.false_ne_true (pastQ.symm.trans ((awaits_iff q).mpr (.inl k)))
    refine ⟨⟨u, hu, carried.index.trans index, (carried_state carried notWaiting).trans state, carried.blocksDone.trans done,
      carried.mediumCount.trans count⟩, fun servedR => ?_⟩
    have : served q = true := by
      unfold served Request.isActive at servedR ⊢
      rw [state]
      exact servedR
    rw [isServed] at this
    cases this

/-- A lock that ceases tells its owner's requests. -/
theorem ceased_told (joins : Joins join) {s : State} (distinct : EntriesDistinct s) :
    OwnerTold s (ceased owner extent join s) owner extent :=
  ⟨fun _ mem inside awaits => ceased_lost joins distinct mem inside awaits,
    fun one _ mem _ inside state service => ceased_stopAsked joins one mem inside state service,
    fun one _ mem _ past notActive => stands_of_ceased joins (requestsSame_refl s) one mem rfl rfl rfl rfl past notActive⟩

end

/-! ### FORCE RELEASE and the expiry of one lease -/

theorem ceaseLock_eq (i : Nat) (lock : Lock) (kind : EndKind) (s : State) : ceaseLock i lock kind s =
    ceased lock.owner lock.extent (joinPending lock.owner (.lock i)) (setLockState i (.ended lock kind) s) := rfl

/-- The state in which a lock's entry has ended, before anyone is told. -/
theorem ended_requestsSame (i : Nat) (state : LockState) (s : State) : RequestsSame s (setLockState i state s) :=
  ⟨rfl, rfl, rfl, fun _ _ h => h⟩

theorem ownerTold_from {s m w : State} {owner : Port} {extent : Extent} (requests : m.requests = s.requests)
    (sequencer : m.sequencer = s.sequencer) (drive : m.drive = s.drive) (h : OwnerTold m w owner extent) :
    OwnerTold s w owner extent := by
  have one : OneServed s → OneServed m := fun one => oneServed_of_frame one requests sequencer
  have atOnce : stopsAtOnce m = stopsAtOnce s := stopsAtOnce_congr (by rw [sequencer]) drive
  obtain ⟨waiting, active, standing⟩ := h
  refine ⟨by rwa [requests] at waiting, fun isOne r mem v inside state service => ?_, fun isOne r mem inside past state => ?_⟩
  · obtain ⟨now, later⟩ := active (one isOne) r (requests ▸ mem) v inside state (sequencer ▸ service)
    exact ⟨fun h => now (atOnce.trans h), fun h => by rw [← sequencer]; exact later (atOnce.trans h)⟩
  · obtain ⟨entry, same⟩ := standing (one isOne) r (requests ▸ mem) inside past state
    exact ⟨entry, fun isServed => (same isServed).trans sequencer⟩

/-- What follows when one lock ends, is told of, and the queue is re-examined. -/
structure OneCeased (s w : State) (i : Nat) (lock : Lock) (kind : EndKind) : Prop where
  locks : w.locks = (setLockState i (.ended lock kind) s).locks
  waiters : w.waiters = s.waiters
  told : OwnerTold s w lock.owner lock.extent
  distinct : EntriesDistinct w
  pendingRecords : ∀ p item, item ∈ s.pendingRecords.get p → item ∈ w.pendingRecords.get p

theorem oneCeased_ceased {join : State → State} (joins : Joins join) (work : ∀ s, WorkOnly s (join s)) {s : State}
    (distinct : EntriesDistinct s) (i : Nat) (lock : Lock) (kind : EndKind) :
    OneCeased s (ceased lock.owner lock.extent join (setLockState i (.ended lock kind) s)) i lock kind := by
  have frame : WorkOnly (setLockState i (.ended lock kind) s)
      (ceased lock.owner lock.extent join (setLockState i (.ended lock kind) s)) :=
    workOnly_trans (lockCessation_workOnly _ _ _) (workOnly_trans (work _) (cessationStop_workOnly _ _))
  obtain ⟨records, keeps⟩ := ceased_kept (owner := lock.owner) (extent := lock.extent) joins (setLockState i (.ended lock kind) s)
  exact ⟨frame.locks, frame.waiters, ownerTold_from (m := setLockState i (.ended lock kind) s) rfl rfl rfl
    (ceased_told joins (s := setLockState i (.ended lock kind) s) distinct),
    keeps distinct, records⟩

theorem lockAt_ended {s : State} {i : Nat} {lock : Lock} {kind : EndKind} (held : (lockAt s i).state ≠ .free) (j : Nat) :
    lockAt (setLockState i (.ended lock kind) s) j =
      if j = i then ⟨(lockAt s i).generation, .ended lock kind⟩ else lockAt s j := by
  rw [lockAt_setLockState]
  have inside := lt_length_of_not_free held
  by_cases h : j = i <;> simp [h, inside]

/-- The end of one lock with its re-examination, at the end of its event. -/
theorem settle_oneCeased {s w : State} {i : Nat} {lock : Lock} {kind : EndKind} (held : (lockAt s i).state ≠ .free)
    (h : OneCeased s w i lock kind) : LockCeased s (settle (reexamine w)) i lock kind ∧
      (settle (reexamine w)).locks = (reexamine (setLockState i (.ended lock kind) s)).locks ∧
      (settle (reexamine w)).waiters = (reexamine (setLockState i (.ended lock kind) s)).waiters ∧
      (∀ j, j ≠ i → LeftOrGranted s.waiters (lockAt s j) (lockAt (settle (reexamine w)) j)) ∧
      WaitersLeft s.waiters (settle (reexamine w)).waiters := by
  have settled := settle_workOnly (reexamine w)
  obtain ⟨locks, waiters⟩ := reexamine_congr (s := setLockState i (.ended lock kind) s) (t := w) h.locks h.waiters
  have granted := reexamine_grantedFrom w
  rw [h.waiters] at granted
  have entryAt : ∀ j, lockAt w j = if j = i then ⟨(lockAt s i).generation, .ended lock kind⟩ else lockAt s j := fun j =>
    (lockAt_congr h.locks j).trans (lockAt_ended held j)
  have left : ∀ j, LeftOrGranted s.waiters (lockAt w j) (lockAt (settle (reexamine w)) j) := fun j => by
    rw [lockAt_congr settled.locks]
    exact granted.locks j
  refine ⟨lockCeased_of_told ?_ ?_, settled.locks.trans locks, settled.waiters.trans waiters, fun j other => ?_, ?_⟩
  · have own := entryAt i
    rw [if_pos rfl] at own
    exact (leftOrGranted_eq_of_not_free (left i) (by rw [own]; exact nofun)).trans own
  · have same := reexamine_requestsSame w
    exact ownerTold_settle (entriesDistinct_congr same.requests h.distinct) (ownerTold_of_same same h.told)
  · have := left j
    rwa [entryAt j, if_neg other] at this
  · unfold WaitersLeft
    rw [settled.waiters, ← h.waiters]
    exact granted.waiters

theorem settle_reexamine_pending {w : State} {p : Port} {item : OwnerRef} (h : item ∈ w.pendingRecords.get p) :
    item ∈ (settle (reexamine w)).pendingRecords.get p :=
  (settle_kept _).pendingRecords p item ((reexamine_requestsSame w).pendingRecords p item h)

/-- A lock that ceases with its grant reported joins its owner's list. -/
theorem ceaseLock_pending (i : Nat) (lock : Lock) (kind : EndKind) (s : State) :
    OwnerRef.lock i ∈ (ceaseLock i lock kind s).pendingRecords.get lock.owner :=
  (cessationStop_kept _ _).pendingRecords _ _ (mem_joinPending _ _ _)

/-- Settles O22: the permission, and the lock that the handle names with its grant reported or not. -/
theorem forceReleaseEndsTheLock : Obligations.ForceReleaseEndsTheLock := by
  intro p command s h
  refine ⟨fun forbidden => ?_, fun lock grant distinct permitted held => ?_⟩
  · exact answeredOnly_of_taken (decision := fun cmd => decideForceRelease p (handleOf cmd)) rfl h rfl
      (by simp only [decideForceRelease, forbidden]; rfl)
  · have held' : (lockAt s (handleOf command).index).state ≠ .free := by rw [held]; exact nofun
    have test : handleTest (handleOf command) s = .ok (lock, grant) := handleTest_of_held held
    have ended : setLockState (handleOf command).index (.ended lock .forced) s =
        s.withLocks (s.locks.set (handleOf command).index ⟨(handleOf command).generation, .ended lock .forced⟩) := by
      rw [setLockState, held]
    obtain ⟨w, decided, ceased, waits⟩ : ∃ w,
        decideForceRelease p (handleOf command) s = ⟨.done, settle (reexamine w)⟩ ∧
        OneCeased s w (handleOf command).index lock .forced ∧
        ∀ lease, grant = .reported lease → OwnerRef.lock (handleOf command).index ∈ w.pendingRecords.get lock.owner := by
      cases grant with
      | unreported =>
        refine ⟨forceUnreported (handleOf command).index lock s, by simp only [decideForceRelease, permitted, test, if_true], ?_,
          fun _ reported => by cases reported⟩
        exact oneCeased_ceased joins_id workOnly_refl distinct _ lock .forced
      | reported lease =>
        refine ⟨ceaseLock (handleOf command).index lock .forced s, by simp only [decideForceRelease, permitted, test, if_true], ?_,
          fun _ _ => ceaseLock_pending _ _ _ s⟩
        exact oneCeased_ceased (joins_joinPending _ _) (joinPending_workOnly _ _) distinct _ lock .forced
    obtain ⟨lockCeased, locks, waiters, others, left⟩ := settle_oneCeased held' ceased
    have work : LocksAndWork s (settle (reexamine w)) := by
      have := decideForceRelease_locksAndWork p (handleOf command) s
      rwa [decided] at this
    have isNext := exec_of_taken (c := .forceRelease p) (decision := fun cmd => decideForceRelease p (handleOf cmd)) rfl h rfl decided
    have windows : (settle (reexamine w)).windows = s.windows := work.windows
    obtain ⟨t, next, answered, posted⟩ := answered_of_post windows isNext
    have locksT : t.locks = (settle (reexamine w)).locks := by rw [posted]; rfl
    have waitersT : t.waiters = (settle (reexamine w)).waiters := by rw [posted]; rfl
    have recordsT : t.pendingRecords = (settle (reexamine w)).pendingRecords := by rw [posted]; rfl
    have requestsT : t.requests = (settle (reexamine w)).requests := by rw [posted]; rfl
    have sequencerT : t.sequencer = (settle (reexamine w)).sequencer := by rw [posted]; rfl
    rw [ended] at locks waiters
    refine ⟨t, next, answered, ?_, ⟨locksT.trans locks, waitersT.trans waiters⟩, fun j other => ?_, ?_, fun lease reported => ?_, ?_⟩
    · exact lockCeased_congr locksT requestsT recordsT sequencerT lockCeased
    · rw [lockAt_congr locksT]
      exact others j other
    · unfold WaitersLeft
      rw [waitersT]
      exact left
    · rw [recordsT]
      exact settle_reexamine_pending (waits lease reported)
    · rw [posted]
      exact ⟨work.pending, rfl, work.windowBase, work.initLine, work.enables, work.completions, work.notices, work.watches, rfl, rfl,
        work.settings, work.token⟩

theorem expiring_iff {e : LockEntry} : e.expiring = true ↔ ∃ lock lease, e.state = .held lock (.reported (some lease)) ∧ lease ≤ 1 := by
  unfold LockEntry.expiring
  split
  · next lock lease state =>
    rw [decide_eq_true_iff]
    exact ⟨fun h => ⟨lock, lease, state, h⟩, fun ⟨_, _, state', h⟩ => by
      rw [state] at state'
      cases state'
      exact h⟩
  · next other => exact iff_of_false Bool.false_ne_true fun ⟨lock, lease, state, _⟩ => other lock lease state

theorem tickLease_of_last {s : State} {i : Nat} {lock : Lock} (last : (lockAt s i).state = .held lock (.reported (some 1))) :
    tickLease s i = ceaseLock i lock .expired s := by
  simp only [tickLease, last, Nat.le_refl, if_true]

/-- Settles O27: the expiry of one lease as a cessation, the denial of one waiter by its equation. -/
theorem expiryAndDenialOnTheirOwn : Obligations.ExpiryAndDenialOnTheirOwn := by
  refine ⟨fun i s distinct => ⟨fun g lock last => ?_, fun goesOn => ?_⟩, fun slot s distinct => ⟨fun w found last => ?_, fun goesOn => ?_⟩⟩
  · have state : (lockAt s i).state = .held lock (.reported (some 1)) := by rw [last]
    have expiring : (lockAt s i.val).expiring = true := expiring_iff.mpr ⟨lock, 1, state, Nat.le_refl 1⟩
    have next : exec (.leaseExpiry i) s = .next (settle (reexamine (ceaseLock i lock .expired s))) := by
      rw [← tickLease_of_last state]
      exact congrArg Host.Outcome.next (if_pos expiring)
    have ended : setLockState i (.ended lock .expired) s = s.withLocks (s.locks.set i ⟨g, .ended lock .expired⟩) := by
      rw [setLockState, last]
    obtain ⟨lockCeased, locks, waiters, others, left⟩ := settle_oneCeased (w := ceaseLock i lock .expired s)
      (by rw [state]; exact nofun) (oneCeased_ceased (joins_joinPending lock.owner (.lock i)) (joinPending_workOnly _ _) distinct i lock .expired)
    rw [ended] at locks waiters
    exact ⟨_, next, lockCeased, ⟨locks, waiters⟩, settle_reexamine_pending (ceaseLock_pending _ _ _ s), others, left,
      locksAndWork_trans (ceaseLock_locksAndWork _ _ _ s)
        (locksAndWork_trans (reexamine_locksAndWork _) (locksAndWork_of_workOnly (settle_workOnly _)))⟩
  · exact congrArg Host.Outcome.next (if_neg (by rw [goesOn]; exact Bool.false_ne_true))
  · obtain ⟨mem, _⟩ := findWaiter_some found
    have expiring : w.expiring = true := by simp [Waiter.expiring, last]
    have next : exec (.waitDenial slot) s = .next (reexamine (denyWaiter w s)) := by
      show Host.Outcome.next (match findWaiter s slot.val with
        | none => s
        | some w => if w.expiring then reexamine (denyWaiter w s) else s) = _
      simp only [found, expiring, if_true]
    have denied : ({ w with state := .denied } : Waiter) ∈ (denyWaiter w s).waiters := List.mem_map.mpr ⟨w, mem, if_pos rfl⟩
    refine ⟨_, next, mem_reexamine_of_denied ?_ denied rfl, rfl⟩
    have slots : (denyWaiter w s).waiters.map Waiter.slot = s.waiters.map Waiter.slot :=
      map_slot_of_state (fun v => v.slot = w.slot) (fun _ => .denied) s.waiters
    exact slotsDistinct_of_sublist (sublist_of_eq slots) distinct
  · show Host.Outcome.next (match findWaiter s slot.val with
      | none => s
      | some w => if w.expiring then reexamine (denyWaiter w s) else s) = _
    cases found : findWaiter s slot.val with
    | none => rfl
    | some w => simp only [goesOn w found, Bool.false_eq_true, if_false]

end Sys2Proof.Machine
end

section
/-! The falling READY, SEEK DONE, the positioning limit and the settle timer: each as the state its event comes to, and the request it ends
(chapters 1 and 6). -/

namespace Sys2Proof.Machine

open Sys2Proof.Safety

/-! ### An end in an event -/

theorem workOnly_of_next {c : Instr} {s t : State} (h : ∃ u, exec c s = .next u ∧ WorkOnly s u) (next : exec c s = .next t) :
    WorkOnly s t := by
  obtain ⟨u, next', work⟩ := h
  rw [next] at next'
  cases next'
  exact work

/-- The event `c` ends the request `r`, served with the record `v`, by `e`; `u` is the state its end begins in. -/
def EndsBy (c : Instr) (s u : State) (v : Service) (r : Request) (e : MediumEnd) : Prop :=
  ∃ t, exec c s = .next t ∧ WorkOnly s t ∧ EndSettled u t v r e

theorem endsBy_of_next {c : Instr} {s u : State} (work : ∃ t, exec c s = .next t ∧ WorkOnly s t) {v : Service} {r : Request} {e : MediumEnd}
    {n : SequencerState} (next : exec c s = .next (settle (endOnMedium e n u))) (service : u.sequencer.service = some v)
    (found : findRequest u v.entry = some r) (isServed : served r = true) (tellable : e.tellable r) : EndsBy c s u v r e :=
  ⟨_, next, workOnly_of_next work next, settle_ended service found isServed tellable n⟩

theorem EndsBy.ended {c : Instr} {s u : State} {v : Service} {r : Request} {e : MediumEnd} (h : EndsBy c s u v r e) :
    ∃ t, exec c s = .next t ∧ WorkOnly s t ∧ EndedAs t r e.status e.failing (e.retries v) := by
  obtain ⟨t, next, work, ends⟩ := h
  exact ⟨t, next, work, ends.ended⟩

theorem tellable_of_failed (r : Request) (status : Status) (failing : Option Nat) : (MediumEnd.failed status failing).tellable r :=
  fun _ => MediumEnd.noConfusion

theorem tellable_of_finished (r : Request) : MediumEnd.finished.tellable r := fun _ => MediumEnd.noConfusion

theorem tellable_of_stop {r : Request} (notActive : r.state ≠ .active none) : MediumEnd.stopped.tellable r :=
  fun active => absurd active notActive

/-- A request that stops has a stop pending, or is an orphan. -/
theorem served_of_stop {r : Request} (h : r.state = .orphaned ∨ ∃ stop, r.state = .active (some stop)) :
    served r = true ∧ r.state ≠ .active none := by
  rcases h with state | ⟨stop, state⟩ <;> simp [served, Request.isActive, state]

/-! ### Falling READY (R98, R99) -/

theorem exec_fallingReady_of_served {s : State} {state : SequencerState} (isState : s.sequencer.state = state)
    (isServing : serving state = true) (ready : s.drive.ready = true) (wp : Bool) :
    exec (.fallingReady wp) s = .next (settle (enterHolding
      (endOnMedium (.failed .driveNotReady none) .holding (loseReady (senseWriteProtect wp s))))) := by
  show Host.Outcome.next (if s.drive.ready = true then _ else _) = _
  rw [if_pos ready]
  have isState' : (senseWriteProtect wp s).sequencer.state = state := isState
  dsimp only
  rw [isState']
  cases state <;> first | rfl | cases isServing

theorem exec_fallingReady_of_unserved {s : State} (ready : s.drive.ready = true) (wp : Bool) :
    (s.sequencer.state = .offline ∨ s.sequencer.state = .holding →
      exec (.fallingReady wp) s = .next (loseReady (senseWriteProtect wp s))) ∧
    (s.sequencer.state = .recalibrating ∨ s.sequencer.state = .idle →
      exec (.fallingReady wp) s = .next (enterHolding (loseReady (senseWriteProtect wp s)))) := by
  refine ⟨fun state => ?_, fun state => ?_⟩ <;>
    rcases state with state | state <;>
      simp only [exec, execFallingReady, senseWriteProtect, State.modifyDrive, State.withDrive_fields, ready, state, if_true]

/-- HOLDING entered after the end of the request served. -/
theorem settle_holding {s : State} {v : Service} {r : Request} (service : s.sequencer.service = some v)
    (found : findRequest s v.entry = some r) (isServed : served r = true) {status : Status} {failing : Option Nat} :
    let t := settle (enterHolding (endOnMedium (.failed status failing) .holding s))
    EndedAs t r status failing ((MediumEnd.failed status failing).retries v) ∧
      t.sequencer = { closedSequencer .holding s.sequencer with faultHoldTimer := some s.settings.faultHold } ∧
      t.drive = { s.drive with writeGate := false, writeData := [] } := by
  obtain ⟨ended, rests⟩ := endOnMedium_endedAs service found isServed (tellable_of_failed r status failing) .holding
  obtain ⟨sequencer, drive⟩ := endOnMedium_frame service (.failed status failing) .holding
  have settings := (endOnMedium_workOnly (.failed status failing) .holding s).settings
  have entered : (enterHolding (endOnMedium (.failed status failing) .holding s)).sequencer =
      { closedSequencer .holding s.sequencer with faultHoldTimer := some s.settings.faultHold } := by
    rw [enterHolding, State.modifySequencer, sequencer, settings]
    rfl
  have quiet := settle_quiet (quiet_of_state (congrArg Sequencer.state entered) SequencerState.noConfusion)
  have rescheduled := settle_rescheduled (enterHolding (endOnMedium (.failed status failing) .holding s))
  exact ⟨rescheduled_endedAs rescheduled rests ended, quiet.drive.sequencer.trans entered, quiet.drive.drive.trans drive⟩

/-- Settles O36, by the state the sequencer is in. -/
theorem fallingReadyHolds : Obligations.FallingReadyHolds := by
  intro wp s ready
  obtain ⟨unready, holds⟩ := exec_fallingReady_of_unserved ready wp
  refine ⟨unready, holds, fun state v r isServing serves isServed => ?_⟩
  have next := exec_fallingReady_of_served serves.state isServing ready wp
  obtain ⟨ended, sequencer, drive⟩ := settle_holding (s := loseReady (senseWriteProtect wp s)) (status := .driveNotReady)
    (failing := none) serves.service serves.entry isServed
  exact ⟨_, next, workOnly_of_next (exec_fallingReady_workOnly wp s) next, ended, drive, sequencer⟩

/-! ### SEEK DONE (R97, R101, R102) -/

/-- The state in which a positioning has ended at its cylinder. -/
def arrivedState (wp : Bool) (positioning : Positioning) (s : State) : State :=
  (endPositioning (senseWriteProtect wp s)).modifySequencer fun q => { q with believed := some positioning.cylinder }

theorem exec_seekDone_of_none {s : State} (outstanding : s.sequencer.outstanding = none) (wp : Bool) :
    exec (.seekDone wp) s = .next (senseWriteProtect wp s) := by
  simp only [exec, execSeekDone, senseWriteProtect, State.modifyDrive, State.withDrive_fields, outstanding]

theorem exec_seekDone_of_recalibrating {s : State} {positioning : Positioning} (outstanding : s.sequencer.outstanding = some positioning)
    (state : s.sequencer.state = .recalibrating) (wp : Bool) : exec (.seekDone wp) s =
      .next (settle ((arrivedState wp positioning s).modifySequencer fun q => { q with state := .idle })) := by
  simp only [exec, execSeekDone, arrivedState, senseWriteProtect, endPositioning, State.modifyDrive, State.modifySequencer,
    State.withDrive_fields, State.withSequencer_fields, outstanding, state]

theorem exec_seekDone_of_seeking {s : State} {positioning : Positioning} {v : Service}
    (outstanding : s.sequencer.outstanding = some positioning) (state : s.sequencer.state = .seeking)
    (service : s.sequencer.service = some v) (wp : Bool) :
    exec (.seekDone wp) s = .next (seekArrived v (arrivedState wp positioning s)) := by
  simp only [exec, execSeekDone, arrivedState, senseWriteProtect, endPositioning, State.modifyDrive, State.modifySequencer,
    State.withDrive_fields, State.withSequencer_fields, outstanding, state, service]

/-- A state that differs from `s` in the level sensed and the sequencer alone. -/
theorem next_of_sequencer {s t : State} {wp : Bool} {q : Sequencer} (others : t = (s.withDrive (sensed s wp)).withSequencer t.sequencer)
    (sequencer : t.sequencer = q) :
    (Host.Outcome.next t : Host.Outcome State Fault Refusal) = .next { s with drive := sensed s wp, sequencer := q } := by
  rw [others, sequencer]
  rfl

theorem issueSeek_of_seeking {s : State} (seeking : s.sequencer.state = .seeking) (cylinder : Nat) : issueSeek cylinder s =
    s.withSequencer
      { s.sequencer with outstanding := some (.seek cylinder), positioningTimer := some Config.seekLimit } := by
  rw [issueSeek, State.modifySequencer, ← seeking]

theorem setRecovery_of_service {s : State} {v : Service} (service : s.sequencer.service = some v) (recovery : Recovery) :
    setRecovery recovery s = s.withSequencer { s.sequencer with service := some { v with recovery := recovery } } :=
  modifyService_of_service service _

/-- Settles O44, by what the positioning was for and the step of the recovery. -/
theorem seekDoneArrives : Obligations.SeekDoneArrives := by
  refine fun wp s => ⟨fun none => exec_seekDone_of_none none wp, fun positioning outstanding => ⟨fun state => ?_, fun v state service => ?_⟩⟩
  · have next := exec_seekDone_of_recalibrating outstanding state wp
    refine ⟨_, next, workOnly_of_next (exec_seekDone_workOnly wp s) next, fun none => ?_, settle_isQuiet fun _ => rfl⟩
    have quiet := settle_quiet (s := (arrivedState wp positioning s).modifySequencer fun q => { q with state := .idle }) fun _ => none
    refine ⟨quiet.drive.sequencer.trans ?_, quiet.requests⟩
    cases positioning <;> rfl
  · have next := exec_seekDone_of_seeking outstanding state service wp
    have service' : (arrivedState wp positioning s).sequencer.service = some v := service
    refine ⟨fun goesOn => ⟨fun recovery => ?_, fun recovery => ?_, fun recovery away => ?_⟩, fun r asked found stop => ?_⟩
    · have settles : seekArrived v (arrivedState wp positioning s) = enterSettling (arrivedState wp positioning s) := by
        rcases recovery with recovery | recovery <;> simp [seekArrived, goesOn, recovery]
      rw [next, settles]
      rfl
    · have settles : seekArrived v (arrivedState wp positioning s) =
          enterSettling (setRecovery .used (arrivedState wp positioning s)) := by
        rcases recovery with recovery | ⟨recovery, home⟩
        · simp [seekArrived, goesOn, recovery]
        · simp [seekArrived, goesOn, recovery, home]
      rw [next, settles, setRecovery_of_service service']
      exact next_of_sequencer (wp := wp) rfl rfl
    · have seeks : seekArrived v (arrivedState wp positioning s) =
          issueSeek v.target (setRecovery .reSeekStep (arrivedState wp positioning s)) := by
        simp [seekArrived, goesOn, recovery, away]
      rw [next, seeks, setRecovery_of_service service']
      rw [issueSeek_of_seeking (by exact state)]
      exact next_of_sequencer (wp := wp) rfl rfl
    · obtain ⟨isServed, notActive⟩ := served_of_stop stop
      have stops : seekArrived v (arrivedState wp positioning s) = settle (endOnMedium .stopped .idle (arrivedState wp positioning s)) := by
        simp [seekArrived, asked]
      exact (endsBy_of_next (exec_seekDone_workOnly wp s) (next.trans (congrArg Host.Outcome.next stops)) service' found isServed
        (tellable_of_stop notActive)).ended

/-! ### A header mismatch, and the positioning limit (R97, R101, R102) -/

theorem headerMismatch_of_unused {s : State} {v : Service} (service : s.sequencer.service = some v) (unused : v.recovery = .unused) :
    headerMismatch s = s.withSequencer (recovering s.sequencer v) := by
  simp only [headerMismatch, service, unused]
  rfl

theorem headerMismatch_of_used {s : State} {v : Service} (service : s.sequencer.service = some v) (used : v.recovery ≠ .unused) :
    headerMismatch s = endOnMedium (.failed .positionError (some v.current)) .idle s := by
  rw [← failCurrent_eq service]
  cases recovery : v.recovery with
  | unused => exact absurd recovery used
  | _ => simp only [headerMismatch, service, recovery]

/-- The recovery begun on a mismatch leaves the scheduler no run. -/
theorem settle_recovering {s : State} {v : Service} (service : s.sequencer.service = some v) (unused : v.recovery = .unused) :
    (settle (headerMismatch s)).sequencer = recovering s.sequencer v ∧ (settle (headerMismatch s)).requests = s.requests := by
  rw [headerMismatch_of_unused service unused]
  have quiet := settle_quiet (s := s.withSequencer (recovering s.sequencer v)) (quiet_of_state rfl SequencerState.noConfusion)
  exact ⟨quiet.drive.sequencer, quiet.requests⟩

theorem exec_positioningTimeLimit_eq {s : State} {limit : Nat} {positioning : Positioning}
    (timer : s.sequencer.positioningTimer = some limit) (outstanding : s.sequencer.outstanding = some positioning) :
    (s.sequencer.state = .recalibrating → exec .positioningTimeLimit s =
      .next (offlineReport ((endPositioning s).modifySequencer fun q => { q with state := .offline }))) ∧
    ∀ v, s.sequencer.state = .seeking → s.sequencer.service = some v → exec .positioningTimeLimit s =
      .next (if v.stopAsked then settle (endOnMedium .stopped .idle (endPositioning s))
        else settle (headerMismatch (endPositioning s))) := by
  have runs : s.sequencer.positioningTimer.isSome = true ∧ s.sequencer.outstanding.isSome = true := by
    rw [timer, outstanding]
    exact ⟨rfl, rfl⟩
  refine ⟨fun state => ?_, fun v state service => ?_⟩
  · simp only [exec, execPositioningTimeLimit, endPositioning, State.modifySequencer, State.withSequencer_fields, if_pos runs, state]
  · simp only [exec, execPositioningTimeLimit, endPositioning, State.modifySequencer, State.withSequencer_fields, if_pos runs, state, service]

/-- Settles O45, by the state the limit meets and what is asked of the request. -/
theorem positioningLimitIsHandled : Obligations.PositioningLimitIsHandled := by
  intro s limit positioning timer outstanding
  obtain ⟨recalibrating, seeking⟩ := exec_positioningTimeLimit_eq timer outstanding
  refine ⟨fun state distinct => ?_, fun v r serves isServed => ?_⟩
  · have next := recalibrating state
    refine ⟨_, next, workOnly_of_next (exec_positioningTimeLimit_workOnly s) next, (offlineReport_frame _).sequencer,
      fun r mem awaits => ?_⟩
    exact offlineReport_held (s := (endPositioning s).modifySequencer _) distinct mem awaits
  · have next := seeking v serves.state serves.service
    have work := exec_positioningTimeLimit_workOnly s
    have service : (endPositioning s).sequencer.service = some v := serves.service
    cases asked : v.stopAsked with
    | true =>
      rw [asked, if_pos rfl] at next
      refine ⟨_, next, workOnly_of_next work next, fun _ notActive => ?_, fun goesOn => absurd goesOn nofun, fun goesOn => absurd goesOn nofun⟩
      exact (settle_ended service serves.entry isServed (tellable_of_stop notActive) .idle).ended
    | false =>
      rw [asked, if_neg Bool.false_ne_true] at next
      refine ⟨_, next, workOnly_of_next work next, fun stop => absurd stop nofun, fun _ unused => settle_recovering service unused,
        fun _ used => ?_⟩
      rw [headerMismatch_of_used service used]
      exact (settle_ended service serves.entry isServed (tellable_of_failed r _ _) .idle).ended

/-! ### The settle timer (R101, R103, R118) -/

/-- The state after the settle timer has stopped. -/
def settled (s : State) : State := s.modifySequencer fun q => { q with settleTimer := none }

theorem exec_settleExpiry_of_served {s : State} {limit : Nat} {v : Service} {r : Request} (serves : Serves s .settling v r)
    (timer : s.sequencer.settleTimer = some limit) : exec .settleExpiry s =
      .next (if r.operation.isFormat then settle (enterFormatting (settled s)) else enterSearching (settled s)) := by
  have found : servedRequest (settled s) = some r := by
    show s.sequencer.service.bind (fun v => findRequest s v.entry) = some r
    rw [serves.service]
    exact serves.entry
  have expires : s.sequencer.state = .settling ∧ s.sequencer.settleTimer.isSome = true := ⟨serves.state, by rw [timer]; rfl⟩
  show Host.Outcome.next (if _ then _ else _) = _
  rw [if_pos expires]
  dsimp only
  rw [show servedRequest (s.modifySequencer fun q => { q with settleTimer := none }) = some r from found]
  rfl

theorem enterSearching_of_service {s : State} {v : Service} (service : s.sequencer.service = some v) :
    enterSearching s = s.withSequencer (searchingFor s.sequencer v) := by
  simp only [enterSearching, service]
  rfl

/-- The sequencer FORMATTING and waiting for INDEX. -/
def formattingFor (q : Sequencer) (v : Service) : Sequencer :=
  { q with
    state := .formatting
    head := headOf v.current
    service := some { v with headerReading := false, phase := .waitIndex } }

theorem enterFormatting_of_negated {s : State} {v : Service} (service : s.sequencer.service = some v)
    (negated : s.drive.writeProtect = false) : enterFormatting s = s.withSequencer (formattingFor s.sequencer v) := by
  simp only [enterFormatting, service, negated, Bool.false_eq_true, if_false]
  rfl

theorem enterFormatting_of_asserted {s : State} {v : Service} (service : s.sequencer.service = some v)
    (asserted : s.drive.writeProtect = true) : enterFormatting s =
      endOnMedium (.failed .writeProtected (some v.current)) .idle (s.withSequencer (formattingFor s.sequencer v)) := by
  simp only [enterFormatting, service, asserted, if_true]
  rfl

/-- Settles O46, by the operation and the level of WRITE PROTECT. -/
theorem settlingEnds : Obligations.SettlingEnds := by
  intro s limit v r serves timer
  have next := exec_settleExpiry_of_served serves timer
  have service : (settled s).sequencer.service = some v := serves.service
  refine ⟨fun other => ?_, fun format negated => ?_, fun format asserted isServed => ?_⟩
  · rw [next, if_neg (by rw [other]; exact Bool.false_ne_true), enterSearching_of_service service]
    rfl
  · rw [if_pos format, enterFormatting_of_negated service negated] at next
    have quiet := settle_quiet (s := (settled s).withSequencer (formattingFor (settled s).sequencer v))
      (quiet_of_state rfl SequencerState.noConfusion)
    exact ⟨_, next, workOnly_of_next (exec_settleExpiry_workOnly s) next, quiet.requests, quiet.drive.drive, quiet.drive.sequencer⟩
  · rw [if_pos format, enterFormatting_of_asserted service asserted] at next
    exact (endsBy_of_next (v := { v with headerReading := false, phase := .waitIndex }) (exec_settleExpiry_workOnly s) next rfl
      serves.entry isServed (tellable_of_failed r _ _)).ended

end Sys2Proof.Machine
end

section
/-! INDEX and BLOCK MARK in the states that take them, and FORMAT TRACK at its marks and field ends (chapters 1 and 6). -/

namespace Sys2Proof.Machine

open Sys2Proof.Safety

/-! ### What a pulse does in the state it finds -/

/-- The state in which the sequencer takes a pulse: WRITE PROTECT sensed, the rotational position set. -/
def pulsed (wp : Bool) (position : Option Nat) (s : State) : State := setPosition position (senseWriteProtect wp s)

/-- INDEX as the sequencer takes it. -/
def indexTaken (s : State) : State :=
  match s.sequencer.state with
  | .searching => indexInSearch s
  | .transferring => if readsField s then settle (dataCheckError s) else s
  | .formatting => indexInFormat s
  | _ => s

/-- BLOCK MARK as the sequencer takes it. -/
def markTaken (s : State) : State :=
  match s.sequencer.state with
  | .searching => modifyService (fun v => { v with headerReading := true }) s
  | .transferring => if readsField s then settle (dataCheckError s) else s
  | .formatting => markInFormat s
  | _ => s

theorem exec_index_eq (wp : Bool) (s : State) : exec (.index wp) s =
    .next (if s.drive.ready then indexTaken (pulsed wp (some 0) s) else senseWriteProtect wp s) := rfl

theorem exec_blockMark_eq (wp : Bool) (s : State) : exec (.blockMark wp) s =
    .next (if s.drive.ready then markTaken (pulsed wp (positionAfterMark s.sequencer.position) s) else senseWriteProtect wp s) := rfl

theorem exec_index_of_ready {s : State} (ready : s.drive.ready = true) (wp : Bool) :
    exec (.index wp) s = .next (indexTaken (pulsed wp (some 0) s)) := by
  rw [exec_index_eq, if_pos ready]

theorem exec_blockMark_of_ready {s : State} (ready : s.drive.ready = true) (wp : Bool) :
    exec (.blockMark wp) s = .next (markTaken (pulsed wp (positionAfterMark s.sequencer.position) s)) := by
  rw [exec_blockMark_eq, if_pos ready]

/-- Outside SEARCHING, TRANSFERRING and FORMATTING a pulse is not handed on. -/
theorem taken_of_other {s : State} (notSearching : s.sequencer.state ≠ .searching) (notTransferring : s.sequencer.state ≠ .transferring)
    (notFormatting : s.sequencer.state ≠ .formatting) : indexTaken s = s ∧ markTaken s = s := by
  cases state : s.sequencer.state with
  | searching => exact absurd state notSearching
  | transferring => exact absurd state notTransferring
  | formatting => exact absurd state notFormatting
  | _ => constructor <;> simp only [indexTaken, markTaken, state]

theorem taken_of_searching {s : State} {v : Service} (state : s.sequencer.state = .searching) (service : s.sequencer.service = some v) :
    indexTaken s = (if 1 ≤ v.indexPasses then settle (endOnMedium (.failed .headerNotFound (some v.current)) .idle s)
      else s.withSequencer
        { s.sequencer with service := some { v with indexPasses := v.indexPasses + 1, headerReading := false } }) ∧
    markTaken s = s.withSequencer { s.sequencer with service := some { v with headerReading := true } } := by
  constructor
  · simp only [indexTaken, state, indexInSearch, service, failCurrent_eq service, modifyService_of_service service]
  · simp only [markTaken, state, modifyService_of_service service]

/-- In TRANSFERRING a pulse concerns a READ or VERIFY alone. -/
theorem taken_of_transferring {s : State} {v : Service} {r : Request} (serves : Serves s .transferring v r) :
    (∀ a, r.operation = .write a → indexTaken s = s ∧ markTaken s = s) ∧
    (delivers r.operation = true ∨ r.operation = .verify →
      indexTaken s = settle (dataCheckError s) ∧ markTaken s = settle (dataCheckError s)) := by
  have servedIs : servedRequest s = some r := by rw [servedRequest, serves.service]; exact serves.entry
  refine ⟨fun a operation => ?_, fun reads => ?_⟩
  · have none : readsField s = false := by simp only [readsField, servedIs, Option.map_some, operation]
    constructor <;> simp only [indexTaken, markTaken, serves.state, none, Bool.false_eq_true, if_false]
  · have reads : readsField s = true := by
      rcases reads with reads | operation
      · obtain ⟨a, operation⟩ := (delivers_iff _).mp reads
        simp only [readsField, servedIs, Option.map_some, operation]
      · simp only [readsField, servedIs, Option.map_some, operation]
    constructor <;> simp only [indexTaken, markTaken, serves.state, reads, if_true]

/-- The data field of a READ or VERIFY ends with an error. -/
theorem exec_dataFieldEnd_of_error {s : State} {v : Service} {r : Request} (serves : Serves s .transferring v r)
    (reads : delivers r.operation = true ∨ r.operation = .verify) {field : List Byte} (error : dataFieldGood field = false) (wp : Bool) :
    exec (.dataFieldEnd wp field) s = .next (settle (dataCheckError (senseWriteProtect wp s))) := by
  have service : (senseWriteProtect wp s).sequencer.service = some v := serves.service
  have found : findRequest (senseWriteProtect wp s) v.entry = some r := serves.entry
  have state : (senseWriteProtect wp s).sequencer.state = .transferring := serves.state
  have ends : readFieldEnd v r field (senseWriteProtect wp s) = settle (dataCheckError (senseWriteProtect wp s)) := by
    rw [readFieldEnd, error, if_neg Bool.false_ne_true]
  rcases reads with reads | operation
  · obtain ⟨a, operation⟩ := (delivers_iff _).mp reads
    simp only [exec, execDataFieldEnd, service, found, state, operation, ends]
  · simp only [exec, execDataFieldEnd, service, found, state, operation, ends]

/-- What an INDEX and a mark do in each phase of a FORMAT TRACK. -/
theorem taken_of_formatting {s : State} {v : Service} (state : s.sequencer.state = .formatting) (service : s.sequencer.service = some v) :
    indexTaken s = (match v.phase with
      | .waitIndex => s.withSequencer { s.sequencer with service := some { v with phase := .begun } }
      | .begun => s
      | .writing => settle (endOnMedium (.failed .headerNotFound (some (v.current + v.written - 1))) .idle s)
      | .gap => settle (endOnMedium (.failed .headerNotFound (some (v.current + v.written))) .idle s)) ∧
    markTaken s = (match v.phase with
      | .waitIndex => s
      | .begun => beginFormatBlock v s
      | .writing => settle (endOnMedium (.failed .headerNotFound (some (v.current + v.written - 1))) .idle s)
      | .gap => beginFormatBlock v s) := by
  constructor
  · simp only [indexTaken, state, indexInFormat, service, modifyService_of_service service]
    cases v.phase <;> rfl
  · simp only [markTaken, state, markInFormat, service]
    cases v.phase <;> rfl

theorem beginFormatBlock_eq {s : State} {v : Service} {r : Request} (service : s.sequencer.service = some v)
    (found : findRequest s v.entry = some r) : beginFormatBlock v s =
      (s.withDrive { s.drive with writeGate := true, writeData := sectorBytes r v.written }).withSequencer
        { s.sequencer with service := some { v with written := v.written + 1, phase := .writing } } := by
  simp only [beginFormatBlock, found, modifyService_of_service service]
  rfl

/-! ### INDEX and BLOCK MARK (R9, R10, R14, R103, R119) -/

/-- A mark that begins a block of a FORMAT TRACK. -/
theorem exec_blockMark_begins {s : State} {v : Service} {r : Request} (serves : Serves s .formatting v r) (ready : s.drive.ready = true)
    (begins : v.phase = .begun ∨ v.phase = .gap) (wp : Bool) : exec (.blockMark wp) s =
      .next ((s.withDrive { sensed s wp with writeGate := true, writeData := sectorBytes r v.written }).withSequencer
        { s.sequencer with
          position := positionAfterMark s.sequencer.position
          service := some { v with written := v.written + 1, phase := .writing } }) := by
  let m := pulsed wp (positionAfterMark s.sequencer.position) s
  have state : m.sequencer.state = .formatting := serves.state
  have service : m.sequencer.service = some v := serves.service
  have found : findRequest m v.entry = some r := serves.entry
  have taken : markTaken m = beginFormatBlock v m := by
    rw [(taken_of_formatting state service).2]
    rcases begins with phase | phase <;> simp only [phase]
  rw [exec_blockMark_of_ready ready, taken, beginFormatBlock_eq service found]
  rfl

/-- A pulse out of turn in a FORMAT TRACK ends it with HEADER NOT FOUND, naming the block begun or the one the mark of which is due. -/
theorem exec_outOfTurn {c : Instr} {wp : Bool} {s : State} {v : Service} {r : Request} (serves : Serves s .formatting v r)
    (ready : s.drive.ready = true) (isServed : served r = true)
    (outOfTurn : (c = .index wp ∧ (v.phase = .writing ∨ v.phase = .gap)) ∨ (c = .blockMark wp ∧ v.phase = .writing)) :
    ∃ u, EndsBy c s u v r
      (.failed .headerNotFound (some (if v.phase = .gap then v.current + v.written else v.current + v.written - 1))) := by
  have taken : ∀ position, _ := fun position =>
    taken_of_formatting (s := pulsed wp position s) (v := v) serves.state serves.service
  obtain ⟨position, work, next⟩ : ∃ position, (∃ t, exec c s = .next t ∧ WorkOnly s t) ∧ exec c s = .next (settle (endOnMedium
      (.failed .headerNotFound (some (if v.phase = .gap then v.current + v.written else v.current + v.written - 1))) .idle
        (pulsed wp position s))) := by
    rcases outOfTurn with ⟨rfl, phase | phase⟩ | ⟨rfl, phase⟩
    · refine ⟨some 0, exec_index_workOnly wp s, ?_⟩
      rw [exec_index_of_ready ready, (taken _).1]
      simp [phase]
    · refine ⟨some 0, exec_index_workOnly wp s, ?_⟩
      rw [exec_index_of_ready ready, (taken _).1]
      simp [phase]
    · refine ⟨positionAfterMark s.sequencer.position, exec_blockMark_workOnly wp s, ?_⟩
      rw [exec_blockMark_of_ready ready, (taken _).2]
      simp [phase]
  exact ⟨pulsed wp position s, endsBy_of_next work next serves.service serves.entry isServed (tellable_of_failed r _ _)⟩

/-- Settles O37, by the state of the sequencer that takes the pulse. -/
theorem pulsesAreTaken : Obligations.PulsesAreTaken := by
  refine ⟨fun wp s => ⟨fun negated => ?_, fun ready => ?_⟩, fun wp s v r ready serves isServed second => ?_,
    fun c wp s v r ready serves isServed outOfTurn => ?_⟩
  · rw [exec_index_eq, exec_blockMark_eq, negated, if_neg Bool.false_ne_true, if_neg Bool.false_ne_true]
    exact ⟨rfl, rfl⟩
  · have index := exec_index_of_ready ready wp
    have mark := exec_blockMark_of_ready ready wp
    refine ⟨fun notSearching notTransferring notFormatting => ?_, fun v service => ⟨fun state => ⟨fun first => ?_, ?_⟩,
      fun r a state found operation => ?_, fun r state found reads => ?_, fun state => ⟨fun phase => ?_, fun phase => ?_,
        fun r begins found => ?_⟩⟩⟩
    · rw [index, mark, (taken_of_other (s := pulsed wp (some 0) s) notSearching notTransferring notFormatting).1,
        (taken_of_other (s := pulsed wp (positionAfterMark s.sequencer.position) s) notSearching notTransferring notFormatting).2]
      exact ⟨rfl, rfl⟩
    · rw [index, (taken_of_searching (s := pulsed wp (some 0) s) state service).1, if_neg (by rw [first]; decide), first]
      rfl
    · rw [mark, (taken_of_searching (s := pulsed wp (positionAfterMark s.sequencer.position) s) state service).2]
      rfl
    · have serves : ∀ position, Serves (pulsed wp position s) .transferring v r := fun position => ⟨state, service, found⟩
      rw [index, mark, ((taken_of_transferring (serves (some 0))).1 a operation).1,
        ((taken_of_transferring (serves (positionAfterMark s.sequencer.position))).1 a operation).2]
      exact ⟨rfl, rfl⟩
    · have serves : ∀ position, Serves (pulsed wp position s) .transferring v r := fun position => ⟨state, service, found⟩
      have cut : ∀ position, exec (.dataFieldEnd wp []) (s.withSequencer { s.sequencer with position := position }) =
          .next (settle (dataCheckError (pulsed wp position s))) := fun position =>
        exec_dataFieldEnd_of_error (s := s.withSequencer { s.sequencer with position := position }) ⟨state, service, found⟩ reads rfl wp
      rw [index, mark, ((taken_of_transferring (serves (some 0))).2 reads).1,
        ((taken_of_transferring (serves (positionAfterMark s.sequencer.position))).2 reads).2]
      exact ⟨(cut _).symm, (cut _).symm⟩
    · rw [index, mark, (taken_of_formatting (s := pulsed wp (some 0) s) state service).1,
        (taken_of_formatting (s := pulsed wp (positionAfterMark s.sequencer.position) s) state service).2, phase]
      exact ⟨rfl, rfl⟩
    · rw [index, (taken_of_formatting (s := pulsed wp (some 0) s) state service).1, phase]
      rfl
    · exact ⟨_, exec_blockMark_begins ⟨state, service, found⟩ ready begins wp, rfl, rfl, rfl⟩
  · have state : (pulsed wp (some 0) s).sequencer.state = .searching := serves.state
    have service : (pulsed wp (some 0) s).sequencer.service = some v := serves.service
    have next := exec_index_of_ready ready wp
    rw [(taken_of_searching state service).1, if_pos second] at next
    obtain ⟨t, next', work, ended⟩ := (endsBy_of_next (exec_index_workOnly wp s) next service serves.entry isServed
      (tellable_of_failed r _ _)).ended
    have position := (kept_trans (endOnMedium_kept (.failed .headerNotFound (some v.current)) .idle (pulsed wp (some 0) s))
      (settle_kept _)).position
    rw [next] at next'
    cases next'
    exact ⟨_, next, work, ended, position⟩
  · obtain ⟨u, t, next, work, ends⟩ := exec_outOfTurn serves ready isServed outOfTurn
    exact ⟨t, next, work, ends.writeGate, ends.ended⟩

/-! ### FORMAT TRACK (R119) -/

/-- The report of blocks finished good, as the entry takes it (R65). -/
theorem finishBlocks_eq {s : State} {v : Service} (service : s.sequencer.service = some v) (n retries : Nat) :
    finishBlocks n retries s = updateRequest v.entry (withBlocks n retries) s := by
  simp only [finishBlocks, service]
  refine congrArg (updateRequest v.entry · s) (funext fun r => ?_)
  cases operation : r.operation <;> simp [withBlocks, delivers, operation]

theorem findRequest_withBlocks {s : State} {i : Nat} {r : Request} (found : findRequest s i = some r) (n retries : Nat) :
    findRequest (updateRequest i (withBlocks n retries) s) i = some (withBlocks n retries r) :=
  findRequest_update (f := withBlocks n retries) (fun _ => rfl) found

theorem exec_dataFieldEnd_of_formatting {s : State} {v : Service} {r : Request} (serves : Serves s .formatting v r)
    (phase : v.phase = .writing) (wp : Bool) (field : List Byte) : exec (.dataFieldEnd wp field) s =
      .next (if 12 ≤ v.written then
          settle (endOnMedium .finished .idle (updateRequest v.entry (withBlocks 12 0) (removeWriteGate (senseWriteProtect wp s))))
        else assertWriteGate [] ((senseWriteProtect wp s).withSequencer
          { s.sequencer with service := some { v with phase := .gap } })) := by
  have service : (senseWriteProtect wp s).sequencer.service = some v := serves.service
  have found : findRequest (senseWriteProtect wp s) v.entry = some r := serves.entry
  have state : (senseWriteProtect wp s).sequencer.state = .formatting := serves.state
  have finishes : finishBlocks Config.blocksPerTrack 0 (removeWriteGate (senseWriteProtect wp s)) =
      updateRequest v.entry (withBlocks 12 0) (removeWriteGate (senseWriteProtect wp s)) :=
    finishBlocks_eq (s := removeWriteGate (senseWriteProtect wp s)) service _ _
  have ends : formatFieldEnd v (senseWriteProtect wp s) = (if 12 ≤ v.written then
        settle (endOnMedium .finished .idle (updateRequest v.entry (withBlocks 12 0) (removeWriteGate (senseWriteProtect wp s))))
      else assertWriteGate [] ((senseWriteProtect wp s).withSequencer
        { s.sequencer with service := some { v with phase := .gap } })) := by
    rw [formatFieldEnd, if_pos phase, finishes, modifyService_of_service service]
    rfl
  rw [← ends]
  simp only [exec, execDataFieldEnd, service, found, state]

/-- The write report of a FORMAT TRACK. -/
theorem makeWriteReport_of_format {r : Request} {defects : BitVec 12} {fill : Byte} (operation : r.operation = .format defects fill)
    {v : Service} (written : v.written = 12) (s : State) :
    (makeWriteReport r v s).writeReports = s.writeReports ++ [⟨r.port, ⟨r.first, r.first + 11⟩, .formatted⟩] := by
  simp only [makeWriteReport, operation, Operation.writeKind, written, OfNat.ofNat_ne_zero, if_false, State.withWriteReports_fields]
  rfl

/-- Settles O38, by the phase of the track. -/
theorem formatTrackWritesAndFinishes : Obligations.FormatTrackWritesAndFinishes := by
  refine ⟨fun wp s v r defects fill ready serves operation => ⟨fun begins => ?_, fun field phase before => ?_,
    fun c phase isServed pulse => ?_, fun phase isServed => ?_⟩,
    fun wp field s v r defects fill serves operation isServed phase written => ?_⟩
  · rw [exec_blockMark_begins serves ready begins wp, sectorBytes, operation, sensed, ready]
    rfl
  · rw [exec_dataFieldEnd_of_formatting serves phase, if_neg (Nat.not_le.mpr before)]
    simp only [assertWriteGate, State.modifyDrive, senseWriteProtect, State.withDrive_fields, State.withSequencer_fields, ready]
    rfl
  · have outOfTurn : (c = .index wp ∧ (v.phase = .writing ∨ v.phase = .gap)) ∨ (c = .blockMark wp ∧ v.phase = .writing) :=
      pulse.imp (⟨·, .inl phase⟩) (⟨·, phase⟩)
    obtain ⟨u, ends⟩ := exec_outOfTurn serves ready isServed outOfTurn
    rw [if_neg (by rw [phase]; exact FormatPhase.noConfusion)] at ends
    exact ends.ended
  · obtain ⟨u, ends⟩ := exec_outOfTurn (c := .index wp) (wp := wp) serves ready isServed (.inl ⟨rfl, .inr phase⟩)
    rw [if_pos phase] at ends
    exact ends.ended
  · have next := exec_dataFieldEnd_of_formatting serves phase wp field
    rw [if_pos (by rw [written])] at next
    let u := updateRequest v.entry (withBlocks 12 0) (removeWriteGate (senseWriteProtect wp s))
    have found : findRequest u v.entry = some (withBlocks 12 0 r) := findRequest_withBlocks serves.entry 12 0
    obtain ⟨t, next', work, ends⟩ := endsBy_of_next (u := u) (exec_dataFieldEnd_workOnly wp field s) next serves.service found isServed
      (tellable_of_finished _)
    refine ⟨t, next', work, ends.ended, ends.writeGate, ends.writeReports.trans ?_⟩
    rw [makeWriteReport_of_format (r := withBlocks 12 0 r) operation written]
    rfl

end Sys2Proof.Machine
end

section
/-! The headers read in SEARCHING, and the end of a data field in TRANSFERRING: the block finished, the request ended at a block boundary,
the data check error (chapter 6). -/

namespace Sys2Proof.Machine

open Sys2Proof.Safety

/-! ### Headers off the target (R102, R104) -/

theorem belongs_iff (h : Header) (q : Sequencer) :
    h.belongs q = true ↔ q.believed = some h.cylinder ∧ h.head = q.head ∧ h.block < 12 := by
  simp only [Header.belongs, Bool.and_eq_true, decide_eq_true_eq, and_assoc]
  exact and_congr_left fun _ => eq_comm

/-- The state in which the field of a header has ended. -/
def headerEnded (wp : Bool) (v : Service) (s : State) : State :=
  (s.withDrive (sensed s wp)).withSequencer { s.sequencer with service := some { v with headerReading := false } }

theorem exec_headerRead_eq {s : State} {v : Service} (searching : s.sequencer.state = .searching) (service : s.sequencer.service = some v)
    (reading : v.headerReading = true) (wp : Bool) (field : List Byte) :
    exec (.headerRead wp field) s = .next (headerInSearch field { v with headerReading := false } (headerEnded wp v s)) :=
  exec_headerRead_of_reading service ⟨searching, reading⟩ wp field

theorem headerInSearch_of_passed {field : List Byte} {h : Header} {s : State} {v : Service} (read : readHeader field = some h)
    (belongs : h.belongs s.sequencer = true) (other : h.block ≠ blockOf v.current) :
    headerInSearch field v s = setPosition (some ((h.block + 1) % 12)) s := by
  simp only [headerInSearch, read, if_pos belongs, if_neg other]
  rfl

/-- Settles O39, by what the header names. -/
theorem headersOffTheTarget : Obligations.HeadersOffTheTarget := by
  refine ⟨fun wp field s v searching service reading => ⟨fun error => ?_, fun h read cylinder head block other => ?_⟩,
    fun wp field s v r h serves isServed reading read elsewhere => ?_⟩
  · rw [exec_headerRead_eq searching service reading, headerInSearch_of_error error]
    rfl
  · have belongs : h.belongs (headerEnded wp v s).sequencer = true := (belongs_iff h _).mpr ⟨cylinder, head, block⟩
    rw [exec_headerRead_eq searching service reading, headerInSearch_of_passed (v := { v with headerReading := false }) read belongs other]
    rfl
  · have elsewhere' : h.belongs (headerEnded wp v s).sequencer = false := by
      rw [← Bool.not_eq_true, belongs_iff]
      rintro ⟨cylinder, head, block⟩
      exact elsewhere.elim (absurd cylinder) fun k => k.elim (absurd head) fun beyond => absurd block (Nat.not_lt.mpr beyond)
    have next := exec_headerRead_eq serves.state serves.service reading wp field
    rw [headerInSearch_of_elsewhere read elsewhere'] at next
    have service : (headerEnded wp v s).sequencer.service = some { v with headerReading := false } := rfl
    refine ⟨_, next, workOnly_of_next (exec_headerRead_workOnly wp field s) next, 
      fun unused => settle_recovering (v := { v with headerReading := false }) service unused, fun used => ?_⟩
    rw [headerMismatch_of_used service used]
    exact (settle_ended service serves.entry isServed (tellable_of_failed r _ _) .idle).ended

/-! ### The target header (R104, R105, R106) -/

/-- The state in which the target header has been found, with the service record it leaves. -/
def targetFound (wp : Bool) (h : Header) (w : Service) (s : State) : State :=
  (s.withDrive (sensed s wp)).withSequencer
    { s.sequencer with position := some ((h.block + 1) % 12), service := some w }

/-- The service record at the target header. -/
def Service.atTarget (v : Service) : Service := { v with headerReading := false, indexPasses := 0 }

theorem exec_headerRead_of_target {wp : Bool} {field : List Byte} {s : State} {v : Service} {r : Request} {h : Header}
    (serves : Serves s .searching v r) (reading : v.headerReading = true) (read : readHeader field = some h)
    (cylinder : s.sequencer.believed = some h.cylinder) (head : h.head = s.sequencer.head) (block : h.block = v.current % 12) :
    exec (.headerRead wp field) s = .next (if h.defective then
        settle (failCurrent .defectiveBlock (targetFound wp h v.atTarget s))
      else match r.operation with
        | .read _ => readAtHeader v.atTarget r (targetFound wp h v.atTarget s)
        | .write _ => writeAtHeader v.atTarget r (targetFound wp h v.atTarget s)
        | .verify => enterTransferring v.atTarget (targetFound wp h v.atTarget s)
        | .format .. => targetFound wp h v.atTarget s) := by
  have belongs : h.belongs (headerEnded wp v s).sequencer = true :=
    (belongs_iff h _).mpr ⟨cylinder, head, by rw [block]; exact Nat.mod_lt _ (by decide)⟩
  have found : findRequest (setPosition (some ((h.block + 1) % Config.blocksPerTrack)) (headerEnded wp v s)) v.entry = some r := serves.entry
  have isBlock : h.block = blockOf v.current := block
  rw [exec_headerRead_eq serves.state serves.service reading]
  simp only [headerInSearch, read, if_pos belongs, if_pos isBlock, found]
  rfl

theorem lowestFreeBuffer_of_first {s : State} {i : Nat} (free : s.buffers[i]? = some none)
    (first : ∀ j, j < i → s.buffers[j]? ≠ some none) : lowestFreeBuffer s = some i := by
  obtain ⟨lt, isFree⟩ := List.getElem?_eq_some_iff.mp free
  refine List.findIdx?_eq_some_iff_getElem.mpr ⟨lt, by rw [isFree]; rfl, fun j below => ?_⟩
  rw [Option.isNone_iff_eq_none]
  intro isFree'
  exact first j below (by rw [List.getElem?_eq_getElem (Nat.lt_trans below lt), isFree'])

/-- Without a LOADED buffer of the block there is none to record. -/
theorem loadedBuffer_none {s : State} {entry block : Nat} (h : ∀ b ∈ s.buffers, ∀ data, b ≠ some ⟨entry, block, .loaded data⟩) :
    loadedBuffer s entry block = none := by
  rw [loadedBuffer, List.findSome?_eq_none_iff]
  rintro ⟨i, b⟩ mem
  obtain ⟨at_i, bound⟩ := mem_boundBuffers.mp mem
  have inPool := List.mem_of_getElem? (bufferAt_eq_some.mp at_i)
  obtain ⟨e, k, state⟩ := b
  subst bound
  cases state with
  | loaded data =>
    refine if_neg fun (isBlock : k = block) => ?_
    subst isBlock
    exact h _ inPool data rfl
  | _ => rfl

/-- Settles O40, by the operation and what stands ready for it. -/
theorem headerAtTheTarget : Obligations.HeaderAtTheTarget := by
  refine ⟨fun wp field s v r h serves reading read cylinder head block sound => ?_,
    fun wp field s v r h serves isServed reading read cylinder head block => ?_⟩
  · have next := exec_headerRead_of_target (wp := wp) serves reading read cylinder head block
    rw [if_neg (by rw [sound]; exact Bool.false_ne_true)] at next
    have held : (boundBuffers (targetFound wp h v.atTarget s) r.index).length = (boundBuffers s r.index).length := rfl
    have free : lowestFreeBuffer (targetFound wp h v.atTarget s) = lowestFreeBuffer s := rfl
    refine ⟨fun operation => ?_, fun a i operation kept => ?_, fun a i operation none fewer first lower => ?_,
      fun a operation none slips => ?_, fun a i data operation negated loaded => ?_, fun a operation unloaded => ?_⟩ <;>
      rw [next, operation] <;> dsimp only
    · rfl
    · rw [readAtHeader, show v.atTarget.buffer = some i from kept]
      rfl
    · rw [readAtHeader, show v.atTarget.buffer = Option.none from none]
      dsimp only
      rw [held, if_pos (by exact fewer), free, lowestFreeBuffer_of_first first lower]
      rfl
    · rw [readAtHeader, show v.atTarget.buffer = Option.none from none]
      dsimp only
      rw [held, free]
      rcases slips with full | taken
      · rw [if_neg (by exact Nat.not_lt.mpr full)]
        rfl
      · rw [lowestFreeBuffer_none.mpr fun mem => taken _ mem rfl]
        split <;> rfl
    · have loaded' : loadedBuffer (targetFound wp h v.atTarget s) r.index v.atTarget.current = some (i, data) := loaded
      have negated' : (targetFound wp h v.atTarget s).drive.writeProtect = false := negated
      simp only [writeAtHeader, loaded', negated', Bool.false_eq_true, if_false]
      subst negated
      rfl
    · have unloaded' : loadedBuffer (targetFound wp h v.atTarget s) r.index v.atTarget.current = none := loadedBuffer_none unloaded
      rw [writeAtHeader, unloaded']
      rfl
  · have next := exec_headerRead_of_target (wp := wp) serves reading read cylinder head block
    have service : (targetFound wp h v.atTarget s).sequencer.service = some v.atTarget := rfl
    have ends : ∀ status, exec (.headerRead wp field) s = .next (settle (failCurrent status (targetFound wp h v.atTarget s))) →
        ∃ t, exec (.headerRead wp field) s = .next t ∧ WorkOnly s t ∧ EndedAs t r status (some v.current)
          ((MediumEnd.failed status (some v.current)).retries v.atTarget) := fun status next => by
      rw [failCurrent_eq service] at next
      exact (endsBy_of_next (exec_headerRead_workOnly wp field s) next service serves.entry isServed (tellable_of_failed r _ _)).ended
    refine ⟨fun defective => ?_, fun a i data sound operation loaded asserted => ?_⟩
    · rw [if_pos defective] at next
      exact ends .defectiveBlock next
    · rw [if_neg (by rw [sound]; exact Bool.false_ne_true), operation] at next
      have loaded' : loadedBuffer (targetFound wp h v.atTarget s) r.index v.atTarget.current = some (i, data) := loaded
      have asserted' : (targetFound wp h v.atTarget s).drive.writeProtect = true := asserted
      refine ends .writeProtected (next.trans ?_)
      simp only [writeAtHeader, loaded', asserted', if_true]

/-! ### A block finished (R65, R110) -/

theorem nextBlock_eq {s : State} {v : Service} (service : s.sequencer.service = some v) :
    nextBlock v s = s.withSequencer (wentOn s.sequencer v) := by
  unfold nextBlock wentOn
  dsimp only
  split
  · rw [modifyService_of_service service, enterSearching_of_service (v := { v with current := v.current + 1, retriesSpent := 0 }) rfl]
    rfl
  · rfl

/-- A block finished, with its report: the end of the request, its stop, or the next block. -/
theorem blockFinished_eq {s : State} {v : Service} {r : Request} (service : s.sequencer.service = some v)
    (found : findRequest s v.entry = some r) (retries : Nat) : blockFinished retries s =
      settle (if v.current = r.last then endOnMedium .finished .idle (updateRequest v.entry (withBlocks 1 retries) s)
        else if v.stopAsked then endOnMedium .stopped .idle (updateRequest v.entry (withBlocks 1 retries) s)
        else (updateRequest v.entry (withBlocks 1 retries) s).withSequencer (wentOn s.sequencer v)) := by
  have found' := findRequest_withBlocks found 1 retries
  have service' : (updateRequest v.entry (withBlocks 1 retries) s).sequencer.service = some v := service
  rw [blockFinished, finishBlocks_eq service, advance, service']
  simp only [found', nextBlock_eq service']
  rfl

theorem exec_dataFieldEnd_of_good {s : State} {v : Service} {r : Request} (serves : Serves s .transferring v r) {field : List Byte}
    (good : dataFieldGood field = true) (wp : Bool) :
    (∀ a, r.operation = .read a → exec (.dataFieldEnd wp field) s = .next (blockFinished v.retriesSpent
      (if v.orphan then senseWriteProtect wp s else fillBuffer v field (senseWriteProtect wp s)))) ∧
    (r.operation = .verify → exec (.dataFieldEnd wp field) s = .next (blockFinished v.retriesSpent (senseWriteProtect wp s))) := by
  have service : (senseWriteProtect wp s).sequencer.service = some v := serves.service
  have found : findRequest (senseWriteProtect wp s) v.entry = some r := serves.entry
  have state : (senseWriteProtect wp s).sequencer.state = .transferring := serves.state
  refine ⟨fun a operation => ?_, fun operation => ?_⟩ <;>
    simp only [exec, execDataFieldEnd, service, found, state, operation, readFieldEnd, good, if_true]

/-- The state in which the data field of a WRITE has been recorded. -/
def recorded (wp : Bool) (v : Service) (s : State) : State :=
  removeWriteGate (freeBuffers (fun b => decide (b.entry = v.entry) && b.servesMedium) (senseWriteProtect wp s))

theorem exec_dataFieldEnd_of_write {s : State} {v : Service} {r : Request} {a : Nat} (serves : Serves s .transferring v r)
    (operation : r.operation = .write a) (wp : Bool) (field : List Byte) :
    exec (.dataFieldEnd wp field) s = .next (blockFinished 0 (recorded wp v s)) := by
  have service : (senseWriteProtect wp s).sequencer.service = some v := serves.service
  have found : findRequest (senseWriteProtect wp s) v.entry = some r := serves.entry
  have state : (senseWriteProtect wp s).sequencer.state = .transferring := serves.state
  simp only [exec, execDataFieldEnd, service, found, state, operation]
  rfl

/-- The buffer that a READ has filled is the only thing of its service record to change. -/
theorem filled_frame {s : State} {v : Service} (service : s.sequencer.service = some v) (field : List Byte) :
    let u := if v.orphan then s else fillBuffer v field s
    (∃ buffer, u.sequencer = { s.sequencer with service := some { v with buffer := buffer } }) ∧ u.requests = s.requests ∧
      u.writeReports = s.writeReports := by
  have same : ∃ buffer, s.sequencer = { s.sequencer with service := some { v with buffer := buffer } } := ⟨v.buffer, by rw [← service]⟩
  dsimp only
  split
  · exact ⟨same, rfl, rfl⟩
  · unfold fillBuffer
    split
    · exact ⟨same, rfl, rfl⟩
    · split
      · exact ⟨same, rfl, rfl⟩
      · next i _ _ b _ =>
        have service' : (setBuffer i (some { b with state := .full (dataFieldWords field) }) s).sequencer.service = some v := service
        rw [modifyService_of_service service']
        exact ⟨⟨none, rfl⟩, rfl, rfl⟩

/-- A good data field of a READ or VERIFY finishes its block, in a state that has the request and the reports as they were. -/
theorem exec_dataFieldEnd_finishes {s : State} {v : Service} {r : Request} (serves : Serves s .transferring v r) {field : List Byte}
    (good : dataFieldGood field = true) (reads : (∃ a, r.operation = .read a) ∨ r.operation = .verify) (wp : Bool) :
    ∃ u buffer, exec (.dataFieldEnd wp field) s = .next (blockFinished v.retriesSpent u) ∧
      u.sequencer.service = some { v with buffer := buffer } ∧ findRequest u v.entry = some r ∧ u.writeReports = s.writeReports := by
  have service : (senseWriteProtect wp s).sequencer.service = some v := serves.service
  obtain ⟨whenRead, whenVerify⟩ := exec_dataFieldEnd_of_good serves good wp
  rcases reads with ⟨a, operation⟩ | operation
  · obtain ⟨⟨buffer, sequencer⟩, requests, reports⟩ := filled_frame service field
    exact ⟨_, buffer, whenRead a operation, congrArg Sequencer.service sequencer, (findRequest_congr requests _).trans serves.entry, reports⟩
  · exact ⟨_, v.buffer, whenVerify operation, service, serves.entry, rfl⟩

theorem makeWriteReport_of_write {r : Request} {a : Nat} (operation : r.operation = .write a) (v : Service) (s : State) :
    (makeWriteReport r v s).writeReports = if v.written = 0 then s.writeReports
      else s.writeReports ++ [⟨r.port, ⟨r.first, r.first + v.written - 1⟩, .written⟩] := by
  simp only [makeWriteReport, operation, Operation.writeKind]
  split <;> rfl

/-- Settles O42, by the operation and what the block boundary finds. -/
theorem requestEndsAtABlockBoundary : Obligations.RequestEndsAtABlockBoundary := by
  refine ⟨fun wp field s v r serves isServed last => ⟨fun a reads good => ?_, fun a operation => ?_⟩,
    fun wp field s v r serves notLast asked stop => ⟨fun a reads => ?_, fun a operation => ?_⟩⟩
  · obtain ⟨u, buffer, next, service, found, reports⟩ := exec_dataFieldEnd_finishes serves good (reads.imp_left fun h => ⟨a, h⟩) wp
    rw [blockFinished_eq service found, if_pos (by exact last)] at next
    obtain ⟨t, next', work, ends⟩ := endsBy_of_next (v := { v with buffer := buffer }) (exec_dataFieldEnd_workOnly wp field s) next service
      (findRequest_withBlocks found 1 _) isServed (tellable_of_finished _)
    refine ⟨t, next', work, ends.ended, ends.writeReports.trans ?_⟩
    have silent : (withBlocks 1 v.retriesSpent r).operation.writeKind = none := by
      rcases reads with operation | operation <;> exact congrArg Operation.writeKind operation
    rw [makeWriteReport_of_reads silent, ite_self]
    exact reports
  · have next := exec_dataFieldEnd_of_write serves operation wp field
    have service : (recorded wp v s).sequencer.service = some v := serves.service
    have found : findRequest (recorded wp v s) v.entry = some r := serves.entry
    rw [blockFinished_eq service found, if_pos last] at next
    obtain ⟨t, next', work, ends⟩ := endsBy_of_next (v := v) (exec_dataFieldEnd_workOnly wp field s) next service
      (findRequest_withBlocks found 1 0) isServed (tellable_of_finished _)
    refine ⟨t, next', work, ends.ended, ends.writeGate, ends.writeReports.trans ?_⟩
    rw [makeWriteReport_of_write (r := withBlocks 1 0 r) operation]
    show (if r.state = .orphaned then s.writeReports else if v.written = 0 then s.writeReports else _) = _
    by_cases orphaned : r.state = .orphaned
    · rw [if_pos orphaned, if_pos (.inl orphaned)]
    · simp only [orphaned, if_false, false_or]
      rfl
  · obtain ⟨isServed, notActive⟩ := served_of_stop stop
    cases good : dataFieldGood field with
    | true =>
      obtain ⟨u, buffer, next, service, found, _⟩ := exec_dataFieldEnd_finishes serves good (reads.imp_left fun h => ⟨a, h⟩) wp
      rw [blockFinished_eq service found, if_neg (by exact notLast), if_pos (by exact asked)] at next
      obtain ⟨t, next', work, ended⟩ := (endsBy_of_next (v := { v with buffer := buffer }) (exec_dataFieldEnd_workOnly wp field s) next
        service (findRequest_withBlocks found 1 _) isServed (tellable_of_stop notActive)).ended
      exact ⟨t, next', work, fun _ => ended, fun bad => absurd bad nofun⟩
    | false =>
      have isRead : delivers r.operation = true ∨ r.operation = .verify := reads.imp_left fun h => (delivers_iff _).mpr ⟨a, h⟩
      have next := exec_dataFieldEnd_of_error serves isRead good wp
      have service : (senseWriteProtect wp s).sequencer.service = some v := serves.service
      have stops : dataCheckError (senseWriteProtect wp s) = endOnMedium .stopped .idle (senseWriteProtect wp s) := by
        simp only [dataCheckError, service, asked, if_true]
      rw [stops] at next
      obtain ⟨t, next', work, ended⟩ := (endsBy_of_next (exec_dataFieldEnd_workOnly wp field s) next service serves.entry isServed
        (tellable_of_stop notActive)).ended
      exact ⟨t, next', work, fun good => absurd good nofun, fun _ => ended⟩
  · obtain ⟨isServed, notActive⟩ := served_of_stop stop
    have next := exec_dataFieldEnd_of_write serves operation wp field
    have service : (recorded wp v s).sequencer.service = some v := serves.service
    have found : findRequest (recorded wp v s) v.entry = some r := serves.entry
    rw [blockFinished_eq service found, if_neg notLast, if_pos asked] at next
    exact (endsBy_of_next (v := v) (exec_dataFieldEnd_workOnly wp field s) next service (findRequest_withBlocks found 1 0) isServed
      (tellable_of_stop notActive)).ended

/-! ### The data check error (R14, R109) -/

/-- Every way a data check error comes about: the position its event sets, and the error in the state so pulsed. -/
theorem exec_dataCheckError {c : Instr} {s : State} {v : Service} {r : Request} (serves : Serves s .transferring v r)
    (reads : delivers r.operation = true ∨ r.operation = .verify)
    (error : (∃ wp field, c = .dataFieldEnd wp field ∧ dataFieldGood field = false) ∨
      (s.drive.ready = true ∧ ∃ wp, c = .index wp ∨ c = .blockMark wp)) :
    ∃ wp, exec c s = .next (settle (dataCheckError (pulsed wp (positionAfter c s) s))) ∧ ∃ t, exec c s = .next t ∧ WorkOnly s t := by
  rcases error with ⟨wp, field, rfl, bad⟩ | ⟨ready, wp, rfl | rfl⟩
  · exact ⟨wp, exec_dataFieldEnd_of_error serves reads bad wp, exec_dataFieldEnd_workOnly wp field s⟩
  · refine ⟨wp, ?_, exec_index_workOnly wp s⟩
    have serves' : Serves (pulsed wp (some 0) s) .transferring v r := ⟨serves.state, serves.service, serves.entry⟩
    rw [exec_index_of_ready ready, ((taken_of_transferring serves').2 reads).1, positionAfter, if_pos ready]
  · refine ⟨wp, ?_, exec_blockMark_workOnly wp s⟩
    have serves' : Serves (pulsed wp (positionAfterMark s.sequencer.position) s) .transferring v r :=
      ⟨serves.state, serves.service, serves.entry⟩
    rw [exec_blockMark_of_ready ready, ((taken_of_transferring serves').2 reads).2, positionAfter, if_pos ready]
    rfl

/-- Settles O43, by the retries left. -/
theorem dataCheckIsRetried : Obligations.DataCheckIsRetried := by
  intro c s v r serves isServed reads notAsked error
  obtain ⟨wp, next, work⟩ := exec_dataCheckError serves reads error
  have service : (pulsed wp (positionAfter c s) s).sequencer.service = some v := serves.service
  refine ⟨_, next, workOnly_of_next work next, fun left => ?_, fun spent => ?_⟩
  · have retries : dataCheckError (pulsed wp (positionAfter c s) s) = (pulsed wp (positionAfter c s) s).withSequencer
        (searchingFor { s.sequencer with position := positionAfter c s } { v with retriesSpent := v.retriesSpent + 1 }) := by
      have left' : v.retriesSpent < (pulsed wp (positionAfter c s) s).settings.retryCount := left
      have again : dataCheckError (pulsed wp (positionAfter c s) s) =
          enterSearching (modifyService (fun w => { w with retriesSpent := w.retriesSpent + 1 }) (pulsed wp (positionAfter c s) s)) := by
        simp only [dataCheckError, service, notAsked, Bool.false_eq_true, if_false, if_pos left']
      rw [again, modifyService_of_service service, enterSearching_of_service (v := { v with retriesSpent := v.retriesSpent + 1 }) rfl]
      rfl
    rw [retries]
    have quiet := settle_quiet (s := (pulsed wp (positionAfter c s) s).withSequencer
      (searchingFor { s.sequencer with position := positionAfter c s } { v with retriesSpent := v.retriesSpent + 1 }))
      (quiet_of_state rfl SequencerState.noConfusion)
    exact ⟨quiet.requests, quiet.drive.sequencer⟩
  · have spent' : ¬ v.retriesSpent < (pulsed wp (positionAfter c s) s).settings.retryCount := Nat.not_lt.mpr spent
    have fails : dataCheckError (pulsed wp (positionAfter c s) s) =
        endOnMedium (.failed .dataCheck (some v.current)) .idle (pulsed wp (positionAfter c s) s) := by
      simp only [dataCheckError, service, notAsked, Bool.false_eq_true, if_false, if_neg spent', failCurrent_eq service]
    rw [fails]
    exact (settle_ended service serves.entry isServed (tellable_of_failed r _ _) .idle).ended

end Sys2Proof.Machine
end

section
/-! The check word of a field, and the header and data fields read back as they were written (chapter 1). -/

namespace Sys2Proof.Machine

open Sys2Proof.Safety

/-! ### The check register run back from zero (R6) -/

/-- The word with a bit at its top. -/
def topBit (b : Bool) : Word := if b then BitVec.twoPow 16 15 else 0

theorem getLsbD_topBit (b : Bool) (i : Nat) : (topBit b).getLsbD i = (decide (i = 15) && b) := by
  cases b with
  | false => simp [topBit]
  | true => simp [topBit, BitVec.getLsbD_twoPow, eq_comm]

/-- The register that sixteen bits fill, the first the most significant; fewer leave the low-order bits zero. -/
def registerOf : List Bool → Word
  | [] => 0
  | b :: rest => topBit b ||| (registerOf rest >>> 1)

theorem getLsbD_registerOf (bits : List Bool) (i : Nat) : (registerOf bits).getLsbD i = (decide (i < 16) && bits.getD (15 - i) false) := by
  induction bits generalizing i with
  | nil => simp [registerOf]
  | cons b rest ih =>
    rw [registerOf, BitVec.getLsbD_or, BitVec.getLsbD_ushiftRight, ih, getLsbD_topBit]
    by_cases last : i = 15
    · subst last
      simp
    · by_cases inside : i < 16
      · have : 15 - i = (15 - (1 + i)) + 1 := by omega
        simp [last, inside, this, show 1 + i < 16 by omega]
      · simp [last, inside, show ¬ 1 + i < 16 by omega]

/-- A step of the register that leaves an even word took the bit at its top, and only shifted. -/
theorem checkBit_eq_iff {register : Word} {b : Bool} {rest : Word} (even : rest.getLsbD 0 = false) :
    checkBit register b = rest ↔ register = topBit b ||| (rest >>> 1) := by
  have shifts : ∀ i, (register <<< 1).getLsbD (i + 1) = (decide (i + 1 < 16) && register.getLsbD i) := fun i => by
    simp [BitVec.getLsbD_shiftLeft]
  constructor
  · intro h
    unfold checkBit at h
    split at h
    · rw [← h, BitVec.getLsbD_xor] at even
      simp at even
    · next same =>
      have isTop : register.msb = b := by
        cases b <;> cases top : register.msb <;> simp_all
      rw [BitVec.msb_eq_getLsbD_last] at isTop
      refine BitVec.eq_of_getLsbD_eq fun i inside => ?_
      rw [BitVec.getLsbD_or, getLsbD_topBit, BitVec.getLsbD_ushiftRight, ← h, Nat.add_comm 1 i, shifts]
      by_cases last : i = 15
      · subst last
        simpa using isTop
      · simp [last, show i + 1 < 16 by omega]
  · intro h
    have isTop : register.msb = b := by
      rw [BitVec.msb_eq_getLsbD_last, h, BitVec.getLsbD_or, getLsbD_topBit, BitVec.getLsbD_ushiftRight]
      simp
    rw [checkBit, isTop, Bool.xor_self, if_neg Bool.false_ne_true]
    refine BitVec.eq_of_getLsbD_eq fun i inside => ?_
    cases i with
    | zero => simpa using even.symm
    | succ i =>
      rw [shifts, h, BitVec.getLsbD_or, getLsbD_topBit, BitVec.getLsbD_ushiftRight, Nat.add_comm 1 i]
      simp [inside, show i ≠ 15 by omega]

/-- The register comes to zero exactly when the bits taken are its own. -/
theorem foldl_checkBit_eq_zero (bits : List Bool) (short : bits.length ≤ 16) (register : Word) :
    bits.foldl checkBit register = 0 ↔ register = registerOf bits := by
  induction bits generalizing register with
  | nil => rfl
  | cons b rest ih =>
    have shorter : rest.length + 1 ≤ 16 := short
    have even : (registerOf rest).getLsbD 0 = false := by
      rw [getLsbD_registerOf, List.getD_eq_default rest false (show rest.length ≤ 15 - 0 by omega), Bool.and_false]
    rw [List.foldl_cons, ih (by omega), checkBit_eq_iff even]
    rfl

/-- The bits of a byte in the order the register takes them. -/
def bitsOf (byte : Byte) : List Bool := [7, 6, 5, 4, 3, 2, 1, 0].map byte.getLsbD

theorem checkByte_eq (register : Word) (byte : Byte) : checkByte register byte = (bitsOf byte).foldl checkBit register := by
  rw [bitsOf, List.foldl_map]
  rfl

theorem registerOf_bytes (high low : Byte) : registerOf (bitsOf high ++ bitsOf low) = high ++ low := by
  refine BitVec.eq_of_getLsbD_eq fun i inside => ?_
  rw [getLsbD_registerOf, BitVec.getLsbD_append]
  interval_cases i <;> rfl

/-- A field carried on through two bytes leaves the register at zero exactly when they are its check word. -/
theorem checkWord_append_eq_zero (bytes : List Byte) (high low : Byte) :
    checkWord (bytes ++ [high, low]) = 0 ↔ checkWord bytes = high ++ low := by
  have carried : checkWord (bytes ++ [high, low]) = (bitsOf high ++ bitsOf low).foldl checkBit (checkWord bytes) := by
    rw [checkWord, List.foldl_append, List.foldl_append]
    simp only [List.foldl_cons, List.foldl_nil, checkByte_eq]
    rfl
  rw [carried, foldl_checkBit_eq_zero (bitsOf high ++ bitsOf low) (Nat.le_refl 16), registerOf_bytes]

theorem extract_append (high low : Byte) :
    (high ++ low : Word).extractLsb' 8 8 = high ∧ (high ++ low : Word).extractLsb' 0 8 = low := by
  constructor <;> refine BitVec.eq_of_getLsbD_eq fun i inside => ?_
  · rw [BitVec.getLsbD_extractLsb', BitVec.getLsbD_append]
    simp [inside]
  · rw [BitVec.getLsbD_extractLsb', BitVec.getLsbD_append]
    simp [inside]

theorem append_extract (w : Word) : (w.extractLsb' 8 8 ++ w.extractLsb' 0 8 : Word) = w := by
  refine BitVec.eq_of_getLsbD_eq fun i inside => ?_
  rw [BitVec.getLsbD_append, BitVec.getLsbD_extractLsb', BitVec.getLsbD_extractLsb']
  by_cases low : i < 8
  · simp [low]
  · simp [low, show i - 8 < 8 by omega, show 8 + (i - 8) = i by omega]

theorem checkBytes_eq_iff (bytes : List Byte) (high low : Byte) : [high, low] = checkBytes bytes ↔ checkWord bytes = high ++ low := by
  simp only [checkBytes, List.cons.injEq, and_true]
  constructor
  · rintro ⟨rfl, rfl⟩
    exact (append_extract _).symm
  · intro h
    rw [h]
    exact ⟨(extract_append high low).1.symm, (extract_append high low).2.symm⟩

/-! ### Fields (R3, R5, R6) -/

theorem fieldGood_iff (n : Nat) (field : List Byte) : fieldGood n field = true ↔ field.length = n + 2 ∧ checkWord field = 0 := by
  simp only [fieldGood, Bool.and_eq_true, decide_eq_true_eq]
  refine and_congr_right fun length => ?_
  obtain ⟨high, low, tail⟩ := List.length_eq_two.mp (show (field.drop n).length = 2 by rw [List.length_drop]; omega)
  have whole : checkWord field = checkWord (field.take n ++ [high, low]) := by rw [← tail, List.take_append_drop]
  rw [tail, checkBytes_eq_iff, whole, checkWord_append_eq_zero]

theorem fieldGood_withCheck (bytes : List Byte) : fieldGood bytes.length (withCheck bytes) = true := by
  simp only [fieldGood, withCheck, Bool.and_eq_true, decide_eq_true_eq, List.length_append, List.drop_left, List.take_left, and_true]
  rfl

theorem readHeader_headerField {c h b : Nat} (defective : Bool) (cylinder : c < 256) (head : h < 256) (block : b < 256) :
    readHeader (headerField c h b defective) = some ⟨c, h, b, defective⟩ := by
  have good : fieldGood 4 (headerField c h b defective) = true :=
    fieldGood_withCheck [BitVec.ofNat 8 c, BitVec.ofNat 8 h, BitVec.ofNat 8 b, if defective then 1 else 0]
  have flag : (if defective then 1 else 0 : Byte).getLsbD 0 = defective := by cases defective <;> rfl
  unfold readHeader
  rw [if_pos good]
  show some (Header.mk (BitVec.ofNat 8 c).toNat (BitVec.ofNat 8 h).toNat (BitVec.ofNat 8 b).toNat _) = _
  rw [BitVec.toNat_ofNat, BitVec.toNat_ofNat, BitVec.toNat_ofNat, Nat.mod_eq_of_lt cylinder, Nat.mod_eq_of_lt head,
    Nat.mod_eq_of_lt block, flag]

theorem length_bytesOfWords (data : List Word) : (bytesOfWords data).length = 2 * data.length := by
  induction data with
  | nil => rfl
  | cons w rest ih =>
    simp only [bytesOfWords, List.length_cons, ih]
    omega

theorem wordsOfBytes_bytesOfWords (data : List Word) : wordsOfBytes (bytesOfWords data) = data := by
  induction data with
  | nil => rfl
  | cons w rest ih => rw [bytesOfWords, wordsOfBytes, ih, append_extract]

/-- Settles O48, by running the check register back from zero. -/
theorem fieldsReadBackAsWritten : Obligations.FieldsReadBackAsWritten := by
  refine ⟨fieldGood_iff, fieldGood_withCheck, fun c h b defective cylinder head block =>
    readHeader_headerField defective (by omega) (by omega) (by omega), fun data length => ?_⟩
  have bytes : (bytesOfWords data).length = Config.dataBytes := by
    rw [length_bytesOfWords, length]
    rfl
  refine ⟨?_, ?_⟩
  · rw [dataFieldGood, ← bytes]
    exact fieldGood_withCheck _
  · rw [dataFieldWords, dataField, withCheck, ← bytes, List.take_left, wordsOfBytes_bytesOfWords]

end Sys2Proof.Machine
end

section
/-! Port reset: what becomes of the port's requests, and that nothing which follows in the event gives the port anything again
(chapters 2 to 11). -/

namespace Sys2Proof.Machine

open Sys2Proof.Safety

/-! ### Where the entries come from -/

/-- Every entry was there before, at its index and of its port, and one that was an orphan is one still. -/
def Inherited (s t : State) : Prop :=
  ∀ u ∈ t.requests, ∃ q ∈ s.requests, u.index = q.index ∧ u.port = q.port ∧ (q.state = .orphaned → u.state = .orphaned)

theorem inherited_of_same {s t : State} (requests : t.requests = s.requests) : Inherited s t := fun u mem =>
  ⟨u, requests ▸ mem, rfl, rfl, id⟩

theorem inherited_trans {s t u : State} (h : Inherited s t) (k : Inherited t u) : Inherited s u := fun x mem => by
  obtain ⟨y, hy, index, port, orphan⟩ := k x mem
  obtain ⟨z, hz, index', port', orphan'⟩ := h y hy
  exact ⟨z, hz, index.trans index', port.trans port', fun state => orphan (orphan' state)⟩

theorem inherited_of_map {s t : State} {f : Request → Request} (requests : t.requests = s.requests.map f)
    (keeps : ∀ q ∈ s.requests, (f q).index = q.index ∧ (f q).port = q.port ∧ (q.state = .orphaned → (f q).state = .orphaned)) :
    Inherited s t := fun u mem => by
  rw [requests] at mem
  obtain ⟨q, hq, rfl⟩ := List.mem_map.mp mem
  exact ⟨q, hq, keeps q hq⟩

theorem orphan_of_loosened {q u : Request} (h : Loosened q u) (state : q.state = .orphaned) : u.state = .orphaned :=
  (loosened_state h (by rw [state]; exact nofun)).trans state

theorem port_of_loosened {q u : Request} (h : Loosened q u) : u.port = q.port := (sameEntry_of_loosened h).port

/-- A change of one entry that is no orphan. -/
theorem inherited_of_entry {s t : State} {i : Nat} {r : Request} (distinct : EntriesDistinct s) (found : findRequest s i = some r)
    (notOrphaned : r.state ≠ .orphaned) {f : Request → Request} (requests : t.requests = s.requests.map f)
    (keeps : ∀ q, SameEntry q (f q) ∧ (q.index ≠ i → Loosened q (f q))) : Inherited s t := by
  refine inherited_of_map requests fun q mem => ⟨(keeps q).1.index, (keeps q).1.port, fun state => ?_⟩
  by_cases own : q.index = i
  · have found' := findRequest_of_mem distinct mem
    rw [own, found] at found'
    cases found'
    exact absurd state notOrphaned
  · exact orphan_of_loosened ((keeps q).2 own) state

theorem freeRequest_inherited (i : Nat) (s : State) : Inherited s (freeRequest i s) := fun u mem => by
  obtain ⟨_, q, hq, loosened⟩ := mem_freeRequest mem
  exact ⟨q, hq, loosened_index loosened, port_of_loosened loosened, orphan_of_loosened loosened⟩

theorem enterHeld_inherited {s : State} {i : Nat} {r : Request} (distinct : EntriesDistinct s) (found : findRequest s i = some r)
    (notOrphaned : r.state ≠ .orphaned) (status : Status) (failing : Option Nat) : Inherited s (enterHeld i status failing s) :=
  inherited_of_entry distinct found notOrphaned (enterHeld_requests found status failing)
    fun q => ⟨heldEntry_same _ _ _ q, fun apart => heldEntry_other apart _ _⟩

theorem endActive_inherited {s : State} {r : Request} (distinct : EntriesDistinct s) (found : findRequest s r.index = some r)
    (notOrphaned : r.state ≠ .orphaned) (v : Service) (status : Status) (failing : Option Nat) :
    Inherited s (endActive r v status failing s) := by
  obtain ⟨f, requests, keeps⟩ := endActive_requests found v status failing
  exact inherited_of_entry distinct found notOrphaned requests keeps

theorem applyEnd_inherited {s : State} {r : Request} (distinct : EntriesDistinct s) (found : findRequest s r.index = some r) (v : Service)
    (e : MediumEnd) : Inherited s (applyEnd r v e s) := by
  unfold applyEnd
  split
  · exact freeRequest_inherited _ s
  · next stop state =>
    exact inherited_trans (enterHeld_inherited distinct found (by rw [state]; exact nofun) _ _)
      (inherited_of_same (makeWriteReport_requests _ _ _))
  · next state =>
    have notOrphaned : r.state ≠ .orphaned := by rw [state]; exact nofun
    split
    · exact endActive_inherited distinct found notOrphaned _ _ _
    · exact endActive_inherited distinct found notOrphaned _ _ _
    · exact inherited_of_same rfl
  · exact inherited_of_same rfl

theorem endOnMedium_inherited {s : State} (distinct : EntriesDistinct s) (e : MediumEnd) (next : SequencerState) :
    Inherited s (endOnMedium e next s) := by
  unfold endOnMedium
  split
  · exact inherited_of_same rfl
  · next v _ =>
    have raised : Inherited s (raiseRetries v.entry (e.retries v) (closeService v next s)) := by
      refine inherited_of_map rfl fun q _ => ?_
      split <;> exact ⟨rfl, rfl, id⟩
    dsimp only
    split
    · exact raised
    · next r found =>
      have index := (findRequest_some found).2
      exact inherited_trans raised (applyEnd_inherited
        (entriesDistinct_of_kept (kept_trans (closeService_kept v next s) (raiseRetries_kept _ _ _)) distinct) (by rw [index]; exact found) v e)

theorem takeStop_inherited {s : State} (distinct : EntriesDistinct s) : Inherited s (takeStop s) := by
  rcases takeStop_cases s with same | ended
  · rw [same]
    exact inherited_of_same rfl
  · rw [ended]
    exact endOnMedium_inherited distinct _ _

/-! ### The port's requests after its reset (R79) -/

theorem markOrphan_requests (i : Nat) (s : State) :
    (markOrphan i s).requests = s.requests.map fun q => if q.index = i then { q with state := .orphaned } else q := rfl

theorem markOrphan_inherited (i : Nat) (s : State) : Inherited s (markOrphan i s) := by
  refine inherited_of_map (markOrphan_requests i s) fun q _ => ?_
  split
  · exact ⟨rfl, rfl, fun _ => rfl⟩
  · exact ⟨rfl, rfl, id⟩

theorem markOrphan_distinct {i : Nat} {s : State} (distinct : EntriesDistinct s) : EntriesDistinct (markOrphan i s) := by
  refine entriesDistinct_of_sublist (sublist_of_eq ?_) distinct
  rw [markOrphan_requests, List.map_map]
  refine List.map_congr_left fun q _ => ?_
  show (if q.index = i then _ else q : Request).index = q.index
  split <;> rfl

theorem resetRequest_inherited (p : Port) {s : State} (distinct : EntriesDistinct s) (i : Nat) : Inherited s (resetRequest p s i) := by
  unfold resetRequest
  split
  · exact inherited_of_same rfl
  · split
    · split
      · rw [orphanRequest_eq]
        exact inherited_trans (markOrphan_inherited i s) (takeStop_inherited (markOrphan_distinct distinct))
      · exact inherited_of_same rfl
      · exact freeRequest_inherited i s
    · exact inherited_of_same rfl

/-- The turn of an entry of the port leaves of it an orphan at most. -/
theorem resetRequest_own {p : Port} {s : State} (distinct : EntriesDistinct s) {i : Nat} {u : Request}
    (mem : u ∈ (resetRequest p s i).requests) (index : u.index = i) (port : u.port = p) : u.state = .orphaned := by
  have stays : resetRequest p s i = s → findRequest s i = some u := fun same => by
    rw [same] at mem
    exact index ▸ findRequest_of_mem distinct mem
  cases found : findRequest s i with
  | none =>
    have same : resetRequest p s i = s := by simp only [resetRequest, found]
    exact absurd (stays same) (by rw [found]; exact nofun)
  | some r =>
    by_cases own : r.port = p
    · cases state : r.state with
      | active stop =>
        have orphans : resetRequest p s i = takeStop (markOrphan i s) := by
          simp only [resetRequest, found, if_pos own, state, orphanRequest_eq]
        rw [orphans] at mem
        obtain ⟨q, hq, index', _, orphan⟩ := takeStop_inherited (markOrphan_distinct distinct) u mem
        rw [markOrphan_requests] at hq
        obtain ⟨q', _, rfl⟩ := List.mem_map.mp hq
        by_cases isEntry : q'.index = i
        · rw [if_pos isEntry] at orphan
          exact orphan rfl
        · rw [if_neg isEntry] at index'
          exact absurd (index'.symm.trans index) isEntry
      | orphaned =>
        have same : resetRequest p s i = s := by simp only [resetRequest, found, if_pos own, state]
        have found' := stays same
        rw [found] at found'
        cases found'
        exact state
      | _ =>
        have freed : resetRequest p s i = freeRequest i s := by simp only [resetRequest, found, if_pos own, state]
        rw [freed] at mem
        exact absurd index (mem_freeRequest mem).1
    · have same : resetRequest p s i = s := by simp only [resetRequest, found, if_neg own]
      have found' := stays same
      rw [found] at found'
      cases found'
      exact absurd port own

/-- Every request of port `p` is an orphan. -/
def OnlyOrphans (p : Port) (s : State) : Prop := ∀ r ∈ s.requests, r.port = p → r.state = .orphaned

theorem foldl_resetRequest_orphans {p : Port} (l : List Nat) {s : State} (distinct : EntriesDistinct s)
    (left : ∀ r ∈ s.requests, r.port = p → r.state = .orphaned ∨ r.index ∈ l) : OnlyOrphans p (l.foldl (resetRequest p) s) := by
  induction l generalizing s with
  | nil => exact fun r mem port => (left r mem port).resolve_right List.not_mem_nil
  | cons i l ih =>
    refine ih (entriesDistinct_of_kept (resetRequest_kept p s i) distinct) fun u mem port => ?_
    by_cases own : u.index = i
    · exact .inl (resetRequest_own distinct mem own port)
    · obtain ⟨q, hq, index, port', orphan⟩ := resetRequest_inherited p distinct i u mem
      refine (left q hq (port'.symm.trans port)).imp orphan fun turn => ?_
      rw [← index] at turn
      exact (List.mem_cons.mp turn).resolve_left own

theorem resetRequests_orphans (p : Port) {s : State} (distinct : EntriesDistinct s) : OnlyOrphans p (resetRequests p s) :=
  foldl_resetRequest_orphans _ distinct fun _ mem _ => .inr (List.mem_map_of_mem mem)

/-! ### Nothing is given to a port that has orphans alone -/

/-- The engine of port `p` is as after power-on, and no item waits to be posted for the port. -/
def Vacant (p : Port) (s : State) : Prop := s.engines.get p = .reset ∧ s.pendingRecords.get p = []

theorem vacant_of_same {p : Port} {s t : State} (h : Vacant p s) (engines : t.engines = s.engines)
    (records : t.pendingRecords = s.pendingRecords) : Vacant p t := by
  unfold Vacant
  rw [engines, records]
  exact h

theorem freeBuffers_vacant {p : Port} {s : State} (h : Vacant p s) (test : Buffer → Bool) : Vacant p (freeBuffers test s) := by
  refine ⟨?_, h.2⟩
  show (s.engines.map _).get p = _
  rw [PortMap.get_map, h.1]
  rfl

theorem forgetEntry_vacant {p : Port} {s : State} (h : Vacant p s) (i : Nat) : Vacant p (forgetEntry i s) := by
  refine ⟨?_, h.2⟩
  show (s.engines.map _).get p = _
  rw [PortMap.get_map, h.1]
  rfl

theorem joinPending_vacant {p q : Port} {s : State} (h : Vacant p s) (other : q ≠ p) (item : OwnerRef) : Vacant p (joinPending q item s) :=
  ⟨h.1, (PortMap.get_set_ne _ _ _ _ other.symm).trans h.2⟩

theorem modifyEngine_vacant {p q : Port} {s : State} (h : Vacant p s) (other : q ≠ p) (f : Engine → Engine) :
    Vacant p (s.modifyEngine q f) :=
  ⟨(PortMap.get_set_ne _ _ _ _ other.symm).trans h.1, h.2⟩

theorem enterHeld_vacant {p : Port} {s : State} {i : Nat} {r : Request} (h : Vacant p s) (found : findRequest s i = some r)
    (other : r.port ≠ p) (status : Status) (failing : Option Nat) : Vacant p (enterHeld i status failing s) := by
  have freed : Vacant p (forgetEntry i (freeEntryBuffers i (leaveMedium i
      (updateRequest i (fun q => { q with state := .held status failing, dependencies := [] }) s)))) :=
    forgetEntry_vacant (freeBuffers_vacant (s := leaveMedium i (updateRequest i _ s)) h _) i
  simp only [enterHeld, found]
  exact joinPending_vacant freed other _

theorem endActive_vacant {p : Port} {s : State} {r : Request} (h : Vacant p s) (found : findRequest s r.index = some r) (other : r.port ≠ p)
    (v : Service) (status : Status) (failing : Option Nat) : Vacant p (endActive r v status failing s) := by
  rcases endActive_cases r v status failing s with ⟨_, _, result⟩ | ⟨_, result⟩ <;> rw [result]
  · exact h
  · refine vacant_of_same (enterHeld_vacant h found other status failing) ?_ (makeWriteReport_pendingRecords _ _ _)
    unfold makeWriteReport
    split
    · rfl
    · split <;> rfl

theorem closedAndRaised_vacant {p : Port} {s : State} (h : Vacant p s) (i n : Nat) (v : Service) (next : SequencerState) :
    Vacant p (raiseRetries i n (closeService v next s)) := freeBuffers_vacant h _

theorem handedOver_vacant {p : Port} {s : State} {r : Request} (h : Vacant p s) (other : r.port ≠ p) : Vacant p (handedOver r s) := by
  refine ⟨?_, (congrArg (PortMap.get · p) (handedOver_frame r s).2.2.1).trans h.2⟩
  show (startPrefetch r _).engines.get p = _
  unfold startPrefetch
  split
  · exact (PortMap.get_set_ne _ _ _ _ other.symm).trans h.1
  · exact h.1

/-- The hand-over of another port's request gives the port nothing. -/
theorem handOver_vacant {p : Port} {s : State} {r : Request} (h : Vacant p s) (distinct : EntriesDistinct s) (mem : r ∈ s.requests)
    (other : r.port ≠ p) : Vacant p (handOver r s) := by
  by_cases isProtected : protectedFormat r s
  · have found := findRequest_sampled (findRequest_of_mem distinct mem)
    have service : (sampled r s).sequencer.service = some (.start r) := rfl
    have raised : findRequest (raiseRetries r.index 0 (closeService (.start r) .idle (sampled r s))) r.index =
        some (raisedEntry 0 { r with state := .active none }) := findRequest_raised (v := .start r) found rfl 0 .idle
    have vacant : Vacant p (raiseRetries r.index 0 (closeService (.start r) .idle (sampled r s))) :=
      closedAndRaised_vacant (vacant_of_same (handedOver_vacant h other) rfl rfl) _ _ _ _
    have result : handOver r s = endOnMedium (.failed .writeProtected (some r.first)) .idle (sampled r s) := handOver_of_protected isProtected
    rw [result, endOnMedium_eq service found]
    exact endActive_vacant (r := raisedEntry 0 { r with state := .active none }) vacant raised other _ _ _
  · rw [handOver_of_starts isProtected]
    exact handedOver_vacant h other

theorem rescheduled_orphans {p : Port} {s t : State} (distinct : EntriesDistinct s) (orphans : OnlyOrphans p s) (h : Rescheduled s t) :
    OnlyOrphans p t := fun u mem port => by
  obtain ⟨f, requests, keeps, state⟩ := h.requests
  rw [requests] at mem
  obtain ⟨q, hq, rfl⟩ := List.mem_map.mp mem
  have orphaned := orphans q hq ((keeps q).port.symm.trans port)
  refine (state q hq (rests_of_entry distinct hq ?_)).trans orphaned
  rw [Request.awaits, orphaned]

theorem runScheduler_vacant {p : Port} (n : Nat) {s : State} (h : Vacant p s) (distinct : EntriesDistinct s) (orphans : OnlyOrphans p s) :
    Vacant p (runScheduler n s) := by
  induction n generalizing s with
  | zero => exact h
  | succ n ih =>
    unfold runScheduler
    split
    · split
      · exact h
      · next r chosen =>
        have ready := chooseRequest_mem chosen
        obtain ⟨mem, isReady⟩ := mem_readyRequests.mp ready
        have other : r.port ≠ p := fun own => by
          have orphaned := orphans r mem own
          rw [isReady] at orphaned
          cases orphaned
        exact ih (handOver_vacant h distinct mem other) (entriesDistinct_of_kept (handOver_kept r s) distinct)
          (rescheduled_orphans distinct orphans (handOver_rescheduled ready))
    · exact h

theorem prefetchPort_vacant {p : Port} (q : Port) (n : Nat) {s : State} (h : Vacant p s) : Vacant p (prefetchPort q n s) := by
  induction n generalizing s with
  | zero => exact h
  | succ n ih =>
    unfold prefetchPort
    split
    · exact h
    · next f prefetch =>
      have other : q ≠ p := fun own => by
        rw [own, h.1] at prefetch
        cases prefetch
      split
      · split
        · exact modifyEngine_vacant h other _
        · exact ih (modifyEngine_vacant (s := setBuffer _ _ s) h other _)
      · exact h

/-- A port with orphans alone has no work for its engine. -/
theorem engineWork_of_orphans {p : Port} {s : State} (orphans : OnlyOrphans p s) : engineWork s p = none := by
  have orphaned : ∀ r ∈ s.requests.filter (fun r => decide (r.port = p) && decide ((s.engines.get p).givenUp ≠ some r.index)),
      r.state = .orphaned := fun r mem => by
    obtain ⟨mem, test⟩ := List.mem_filter.mp mem
    rw [Bool.and_eq_true, decide_eq_true_eq] at test
    exact orphans r mem test.1
  have noneActive := List.find?_eq_none.mpr fun r mem => by
    show ¬ Request.isActive r = true
    rw [Request.isActive, orphaned r mem]
    exact Bool.false_ne_true
  have noneDraining := List.filter_eq_nil_iff.mpr fun r mem => by
    show ¬ Request.isDraining r = true
    rw [Request.isDraining, orphaned r mem]
    exact Bool.false_ne_true
  simp only [engineWork, noneActive, noneDraining]
  rfl

theorem chooseWork_vacant {p : Port} (q : Port) {s : State} (h : Vacant p s) (orphans : OnlyOrphans p s) : Vacant p (chooseWork q s) := by
  unfold chooseWork
  split
  · split
    · exact h
    · next work =>
      have other : q ≠ p := fun own => by
        rw [own, engineWork_of_orphans orphans] at work
        cases work
      exact modifyEngine_vacant (modifyEngine_vacant (s := setBuffer _ _ s) h other _) other _
  · exact h

theorem onlyOrphans_congr {p : Port} {s t : State} (requests : t.requests = s.requests) (h : OnlyOrphans p s) : OnlyOrphans p t := by
  unfold OnlyOrphans
  rw [requests]
  exact h

/-- The end of an event gives nothing to a port that has orphans alone. -/
theorem settle_vacant {p : Port} {s : State} (h : Vacant p s) (distinct : EntriesDistinct s) (orphans : OnlyOrphans p s) :
    Vacant p (settle s) ∧ OnlyOrphans p (settle s) := by
  refine ⟨?_, rescheduled_orphans distinct orphans (settle_rescheduled s)⟩
  have run := runScheduler_vacant (s.requests.length + 1) h distinct orphans
  have ran := rescheduled_orphans distinct orphans (runScheduler_rescheduled (s.requests.length + 1) s)
  have claimed : ∀ q {u : State}, Vacant p u → Vacant p (prefetchPort q (Config.buffersPerRequest + 1) u) := fun q _ h =>
    prefetchPort_vacant q _ h
  have chosen : ∀ q {u : State}, Vacant p u ∧ OnlyOrphans p u → Vacant p (chooseWork q u) ∧ OnlyOrphans p (chooseWork q u) :=
    fun q u ⟨h, k⟩ => ⟨chooseWork_vacant q h k, onlyOrphans_congr (chooseWork_enginesOnly q u).requests k⟩
  have prefetched := forPorts_enginesOnly (fun p => prefetchPort_enginesOnly p (Config.buffersPerRequest + 1))
    (runScheduler (s.requests.length + 1) s)
  exact (chosen .d (chosen .c (chosen .b (chosen .a ⟨claimed .d (claimed .c (claimed .b (claimed .a run))),
    onlyOrphans_congr prefetched.requests ran⟩)))).1

/-! ### The locks and the waiters (R39, R53) -/

/-- No entry of the Lock Table is port `p`'s. -/
def OwnsNoLock (p : Port) (e : LockEntry) : Prop := ∀ x : Lock, (e.heldLock = some x ∨ ∃ k, e.state = .ended x k) → x.owner ≠ p

theorem ownsNoLock_free (p : Port) (g : Nat) : OwnsNoLock p ⟨g, .free⟩ := fun x h => by
  rcases h with held | ⟨_, ended⟩
  · cases held
  · cases ended

theorem resetPort_ownsNoLock (p : Port) (e : LockEntry) : OwnsNoLock p (e.resetPort p) := by
  obtain ⟨g, state⟩ := e
  cases state with
  | free => exact ownsNoLock_free p g
  | held lock grant =>
    by_cases own : lock.owner = p
    · simp only [LockEntry.resetPort, if_pos own]
      exact ownsNoLock_free p g
    · simp only [LockEntry.resetPort, if_neg own]
      rintro x (held | ⟨_, ended⟩)
      · cases held
        exact own
      · cases ended
  | ended lock kind =>
    by_cases own : lock.owner = p
    · simp only [LockEntry.resetPort, if_pos own]
      exact ownsNoLock_free p g
    · simp only [LockEntry.resetPort, if_neg own]
      rintro x (held | ⟨_, ended⟩)
      · cases held
      · cases ended
        exact own

theorem leftOrGranted_ownsNoLock {p : Port} {ws : List Waiter} {x y : LockEntry} (h : LeftOrGranted ws x y)
    (others : ∀ w ∈ ws, w.lock.owner ≠ p) (k : OwnsNoLock p x) : OwnsNoLock p y := by
  rcases h with same | ⟨_, w, mem, granted⟩
  · rw [same]
    exact k
  · rw [granted]
    rintro lock (held | ⟨_, ended⟩)
    · cases held
      exact others w mem
    · cases ended

theorem foldl_grantWaiter_vacant {p : Port} (l : List Waiter) {s : State} (h : Vacant p s) (others : ∀ w ∈ l, w.lock.owner ≠ p) :
    Vacant p (l.foldl grantWaiter s) := by
  induction l generalizing s with
  | nil => exact h
  | cons w l ih =>
    refine ih ?_ fun x mem => others x (List.mem_cons_of_mem _ mem)
    unfold grantWaiter
    split
    · split
      · exact h
      · next i _ => exact joinPending_vacant (s := allocateLock i w.lock .unreported s) h (others w List.mem_cons_self) _
    · exact h

/-! ### Port reset (R180) -/

theorem resetPortState_vacant (p : Port) (s : State) : Vacant p (resetPortState p s) :=
  ⟨PortMap.get_set_same _ p _, PortMap.get_set_same _ p _⟩

theorem mem_resetLocks_waiters {p : Port} {s : State} {w : Waiter} (mem : w ∈ (resetLocks p s).waiters) : w.lock.owner ≠ p :=
  of_decide_eq_true (List.mem_filter.mp mem).2

/-- The state of a port reset before what the event makes due. -/
def clearedPort (p : Port) (s : State) : State := reexamine (resetLocks p (resetPortState p (resetRequests p s)))

theorem portReset_eq (p : Port) (s : State) : portReset p s = settle (clearedPort p s) := rfl

theorem clearedPort_locksOnly (p : Port) (s : State) : LocksOnly (resetPortState p (resetRequests p s)) (clearedPort p s) :=
  locksOnly_trans (resetLocks_locksOnly p _) (reexamine_locksOnly _)

theorem clearedPort_ownsNoLock (p : Port) (s : State) {e : LockEntry} (mem : e ∈ (clearedPort p s).locks) : OwnsNoLock p e := by
  obtain ⟨i, at_i⟩ := List.mem_iff_getElem?.mp mem
  have isAt : lockAt (clearedPort p s) i = e := by rw [lockAt, List.getD_eq_getElem?_getD, at_i, Option.getD_some]
  have left := (reexamine_reexamined (resetLocks p (resetPortState p (resetRequests p s)))).locks i
  rw [lockAt_resetLocks] at left
  rw [← isAt]
  exact leftOrGranted_ownsNoLock left (fun _ => mem_resetLocks_waiters) (resetPort_ownsNoLock p _)

theorem portReset_cleared (p : Port) {s : State} (distinct : EntriesDistinct s) : PortCleared s (portReset p s) p := by
  have requests := resetRequests_workOnly p s
  have locksOnly := clearedPort_locksOnly p s
  have rest := locksAndWork_of_locksOnly locksOnly
  have settled := settle_workOnly (clearedPort p s)
  have sameRequests : (clearedPort p s).requests = (resetRequests p s).requests :=
    (locksOnly_requests locksOnly).trans rfl
  have vacant : Vacant p (clearedPort p s) :=
    foldl_grantWaiter_vacant _ (s := resetLocks p (resetPortState p (resetRequests p s))) (resetPortState_vacant p _)
      fun _ => mem_resetLocks_waiters
  obtain ⟨⟨engine, records⟩, orphans⟩ := settle_vacant vacant
    (entriesDistinct_congr sameRequests (entriesDistinct_of_kept (resetRequests_kept p s) distinct))
    (onlyOrphans_congr sameRequests (resetRequests_orphans p distinct))
  rw [portReset_eq]
  have own : ∀ {α : Type} (field : State → PortMap α) {v : α}, field (settle (clearedPort p s)) = field (clearedPort p s) →
      field (clearedPort p s) = (field (resetRequests p s)).set p v → field (resetRequests p s) = field s →
      (field (settle (clearedPort p s))).get p = v ∧ ∀ q, q ≠ p → (field (settle (clearedPort p s))).get q = (field s).get q :=
    fun field v one two three => by
      rw [one, two, three]
      exact ⟨PortMap.get_set_same _ p _, fun q other => PortMap.get_set_ne _ _ _ _ other⟩
  obtain ⟨window, otherWindows⟩ := own State.windows settled.windows rest.windows requests.windows
  obtain ⟨watches, otherWatches⟩ := own State.watches settled.watches rest.watches requests.watches
  obtain ⟨completions, otherCompletions⟩ := own State.completions settled.completions rest.completions requests.completions
  obtain ⟨notices, otherNotices⟩ := own State.notices settled.notices rest.notices requests.notices
  obtain ⟨enables, otherEnables⟩ := own State.enables settled.enables rest.enables requests.enables
  obtain ⟨base, otherBases⟩ := own State.windowBase settled.windowBase rest.windowBase requests.windowBase
  exact {
    window := window
    engine := engine
    watches := watches
    completions := completions
    pendingRecords := records
    notices := notices
    enables := enables
    windowBase := base
    requests := orphans
    locks := fun e mem => clearedPort_ownsNoLock p s (settled.locks ▸ mem)
    waiters := fun w mem => mem_resetLocks_waiters ((reexamine_waiters_sublist _).subset (settled.waiters ▸ mem))
    token := portReset_token p s
    settings := settled.settings.trans (rest.settings.trans requests.settings)
    otherPorts := fun q other => ⟨otherWindows q other, otherEnables q other, otherBases q other, otherCompletions q other,
      otherNotices q other, otherWatches q other⟩ }

theorem portReset_initLine (p : Port) (s : State) : (portReset p s).initLine = s.initLine :=
  (settle_workOnly (clearedPort p s)).initLine.trans ((locksAndWork_of_locksOnly (clearedPort_locksOnly p s)).initLine.trans
    (resetRequests_workOnly p s).initLine)

/-- Settles O5, for the two causes of a port reset. -/
theorem portResetClearsThePort : Obligations.PortResetClearsThePort := fun p value s distinct free => by
  refine ⟨⟨_, exec_reset_of_free free value, portReset_cleared p distinct, portReset_initLine p s⟩,
    _, exec_initAsserted_of_free free, ?_, portReset_initLine p _⟩
  obtain ⟨window, engine, watches, completions, records, notices, enables, base, requests, locks, waiters, token, settings, others⟩ :=
    portReset_cleared p (s := s.withInitLine (s.initLine.set p true)) distinct
  exact ⟨window, engine, watches, completions, records, notices, enables, base, requests, locks, waiters, token, settings, others⟩

end Sys2Proof.Machine
end

section
/-! The lease tick: the leases that end in one tick are told of one after another, and what each makes of its owner's requests stands
through the rest of the event (chapters 2 and 4). -/

namespace Sys2Proof.Machine

open Sys2Proof.Safety

/-! ### What a further cessation leaves -/

/-- The ACTIVE request as it was, with the sequencer and the drive. -/
def Untouched (s c : State) (r : Request) : Prop :=
  (∃ q ∈ c.requests, SameEntry r q ∧ q.state = r.state) ∧ c.sequencer = s.sequencer ∧ c.drive = s.drive

theorem untouched_of_same {s m c : State} (h : RequestsSame m c) {r : Request} (k : Untouched s m r) : Untouched s c r := by
  unfold Untouched
  rw [h.requests, h.sequencer, h.drive]
  exact k

theorem inside_of_carried {owner : Port} {extent : Extent} {r q : Request} (h : Carried r q) :
    Inside owner extent q ↔ Inside owner extent r := carried_inside h

theorem awaits_of_carried {r q : Request} (h : Carried r q) (awaits : r.awaits = true) : q.awaits = true := by
  rcases h.state with same | ⟨_, ready⟩
  · rw [awaits_congr same]
    exact awaits
  · exact (awaits_iff q).mpr (.inr ready)

theorem lost_of_carried {t : State} {r q : Request} (h : Carried r q) (lost : Lost t q) : Lost t r := by
  unfold Lost at lost ⊢
  rw [← h.index, ← h.port, ← h.blocksDone]
  exact lost

section
variable {owner : Port} {extent : Extent} {join : State → State} {s m : State}

theorem lost_ceased (joins : Joins join) (distinct : EntriesDistinct m) {r : Request} (h : Lost m r) :
    Lost (ceased owner extent join m) r := by
  obtain ⟨⟨q, hq, index, state, done⟩, waits⟩ := h
  have unserved : served q = false := by rw [served, Request.isActive, state]; rfl
  obtain ⟨u, hu, carried⟩ := ceased_past (owner := owner) (extent := extent) joins distinct hq unserved (awaits_of_held state)
  exact ⟨⟨u, hu, carried.index.trans index, (carried_state carried (by rw [state]; exact nofun)).trans state,
    carried.blocksDone.trans done⟩, (ceased_kept joins m).1 _ _ waits⟩

/-- A request that awaits its turn is lost when it is inside, and awaits its turn when it is not. -/
theorem awaiting_ceased (joins : Joins join) (distinct : EntriesDistinct m) {r q : Request} (hq : q ∈ m.requests) (h : Carried r q)
    (awaits : r.awaits = true) : (Inside owner extent r → Lost (ceased owner extent join m) r) ∧
      (¬ Inside owner extent r → ∃ u ∈ (ceased owner extent join m).requests, Carried r u) := by
  have awaits' := awaits_of_carried h awaits
  refine ⟨fun inside => lost_of_carried h (ceased_lost joins distinct hq ((inside_of_carried h).mpr inside) awaits'), fun outside => ?_⟩
  obtain ⟨u, hu, carried⟩ := ceased_outside (owner := owner) (extent := extent) joins distinct hq
    (fun inside => outside ((inside_of_carried h).mp inside)) awaits'
  exact ⟨u, hu, carried_trans h carried⟩

theorem stopAsked_ceased (joins : Joins join) (one : OneServed m) {r : Request} {v : Service} {reason : Status}
    (h : StopAsked s m r v reason) : StopAsked s (ceased owner extent join m) r v reason := by
  refine ⟨fun now => ceased_heldWith joins one (h.atOnce now), fun later => ?_⟩
  obtain ⟨⟨q, hq, index, port, tag, state, done, count, retries⟩, sequencer⟩ := h.pending later
  obtain ⟨⟨u, hu, same, state'⟩, sequencer'⟩ := ceased_standing (owner := owner) (extent := extent) joins one hq (served_of_active state)
    (by rw [state]; exact nofun)
  exact ⟨⟨u, hu, same.index.trans index, same.port.trans port, same.tag.trans tag, state'.trans state, same.blocksDone.trans done,
    same.mediumCount.trans count, same.retriesUsed.trans retries⟩, sequencer'.trans sequencer⟩

/-- The ACTIVE request that no report has reached is asked to stop when it is inside, and untouched when it is not. -/
theorem untouched_ceased (joins : Joins join) (one : OneServed m) {r : Request} (h : Untouched s m r) (state : r.state = .active none)
    {v : Service} (service : s.sequencer.service = some v) :
    (Inside owner extent r → StopAsked s (ceased owner extent join m) r v .lockLost) ∧
      (¬ Inside owner extent r → Untouched s (ceased owner extent join m) r) := by
  obtain ⟨⟨q, hq, same, state'⟩, sequencer, drive⟩ := h
  have sameInside := inside_of_carried (owner := owner) (extent := extent) (carried_of_same same state')
  refine ⟨fun inside => ?_, fun outside => ?_⟩
  · obtain ⟨now, later⟩ := ceased_stopAsked joins one hq (sameInside.mpr inside) (state'.trans state)
      (show m.sequencer.service = some v by rw [sequencer]; exact service)
    have atOnce : stopsAtOnce m = stopsAtOnce s := stopsAtOnce_congr (by rw [sequencer]) drive
    refine ⟨fun h => heldWith_of_same same (now (atOnce.trans h)), fun h => ?_⟩
    obtain ⟨⟨u, hu, index, port, tag, active, done, count, retries⟩, sequencer'⟩ := later (atOnce.trans h)
    exact ⟨⟨u, hu, index.trans same.index, port.trans same.port, tag.trans same.tag, active, done.trans same.blocksDone,
      count.trans same.mediumCount, retries.trans same.retriesUsed⟩, sequencer'.trans (by rw [sequencer])⟩
  · obtain ⟨⟨u, hu, same', state'', _⟩, sequencer', drive'⟩ := ceased_untouched (owner := owner) (extent := extent) joins one hq
      (state'.trans state) fun inside => outside (sameInside.mp inside)
    exact ⟨⟨u, hu, sameEntry_trans same same', state''.trans state'⟩, sequencer'.trans sequencer, drive'.trans drive⟩

theorem stands_ceased (joins : Joins join) (one : OneServed m) {r : Request} (h : Stands s m r) (past : r.awaits = false)
    (notActive : r.state ≠ .active none) : Stands s (ceased owner extent join m) r := by
  obtain ⟨⟨q, hq, index, state, done, count⟩, sequencer⟩ := h
  obtain ⟨entry, same⟩ := stands_of_ceased (owner := owner) (extent := extent) joins (requestsSame_refl m) one hq index state done count past
    notActive
  exact ⟨entry, fun isServed => (same isServed).trans (sequencer isServed)⟩

/-! ### The requests in the course of a tick -/

/-- What the leases ended so far have made of the request `r` of the state `s` in which the tick began. -/
structure Fated (s c : State) (r : Request) : Prop where
  waiting : r.awaits = true → Lost c r ∨ ∃ q ∈ c.requests, Carried r q
  active : OneServed s → r.state = .active none → ∀ v, s.sequencer.service = some v → StopAsked s c r v .lockLost ∨ Untouched s c r
  standing : OneServed s → r.awaits = false → r.state ≠ .active none → Stands s c r

theorem fated_refl {r : Request} (mem : r ∈ s.requests) : Fated s s r :=
  ⟨fun _ => .inr ⟨r, mem, carried_refl r⟩, fun _ _ _ _ => .inr ⟨⟨r, mem, sameEntry_refl r, rfl⟩, rfl, rfl⟩,
    fun _ _ _ => ⟨⟨r, mem, rfl, rfl, rfl, rfl⟩, fun _ => rfl⟩⟩

theorem fated_of_same {c d : State} (h : RequestsSame c d) {r : Request} (k : Fated s c r) : Fated s d r := by
  refine ⟨fun awaits => ?_, fun one state v service => ?_, fun one past state => stands_of_same h (k.standing one past state)⟩
  · rw [h.requests]
    exact (k.waiting awaits).imp_left (lost_of_same h)
  · exact (k.active one state v service).imp (stopAsked_of_same h) (untouched_of_same h)

theorem fated_ceased (joins : Joins join) (distinct : EntriesDistinct m) (one : OneServed s → OneServed m) {r : Request}
    (h : Fated s m r) : Fated s (ceased owner extent join m) r := by
  refine ⟨fun awaits => ?_, fun isOne state v service => ?_, fun isOne past state =>
    stands_ceased joins (one isOne) (h.standing isOne past state) past state⟩
  · rcases h.waiting awaits with lost | ⟨q, hq, carried⟩
    · exact .inl (lost_ceased joins distinct lost)
    · obtain ⟨whenInside, whenOutside⟩ := awaiting_ceased (owner := owner) (extent := extent) joins distinct hq carried awaits
      exact (em (Inside owner extent r)).imp whenInside whenOutside
  · rcases h.active isOne state v service with asked | untouched
    · exact .inl (stopAsked_ceased joins (one isOne) asked)
    · obtain ⟨whenInside, whenOutside⟩ := untouched_ceased (owner := owner) (extent := extent) joins (one isOne) untouched state service
      exact (em (Inside owner extent r)).imp whenInside whenOutside

/-- The cessation of a lock tells its owner's requests, whatever the earlier ones have made of them. -/
theorem told_ceased (joins : Joins join) (distinct : EntriesDistinct m) (one : OneServed s → OneServed m)
    (h : ∀ r ∈ s.requests, Fated s m r) : OwnerTold s (ceased owner extent join m) owner extent := by
  refine ⟨fun r mem inside awaits => ?_, fun isOne r mem v inside state service => ?_, fun isOne r mem _ past state =>
    stands_ceased joins (one isOne) ((h r mem).standing isOne past state) past state⟩
  · rcases (h r mem).waiting awaits with lost | ⟨q, hq, carried⟩
    · exact lost_ceased joins distinct lost
    · exact (awaiting_ceased joins distinct hq carried awaits).1 inside
  · rcases (h r mem).active isOne state v service with asked | untouched
    · exact stopAsked_ceased joins (one isOne) asked
    · exact (untouched_ceased joins (one isOne) untouched state service).1 inside

theorem ownerTold_ceased {owner' : Port} {extent' : Extent} (joins : Joins join) (distinct : EntriesDistinct m)
    (one : OneServed s → OneServed m) (h : OwnerTold s m owner' extent') :
    OwnerTold s (ceased owner extent join m) owner' extent' :=
  ⟨fun r mem inside awaits => lost_ceased joins distinct (h.waiting r mem inside awaits),
    fun isOne r mem v inside state service => stopAsked_ceased joins (one isOne) (h.active isOne r mem v inside state service),
    fun isOne r mem inside past state => stands_ceased joins (one isOne) (h.standing isOne r mem inside past state) past state⟩

end

/-! ### The turns of a tick (R26, R28) -/

/-- The turn of an entry ends its lease, or touches no request. -/
theorem tickLease_cases (s : State) (i : Nat) :
    (∃ lock lease, (lockAt s i).state = .held lock (.reported (some lease)) ∧ tickLease s i = ceaseLock i lock .expired s) ∨
      RequestsSame s (tickLease s i) := by
  unfold tickLease
  split
  · next lock lease state =>
    split
    · exact .inl ⟨lock, lease, state, rfl⟩
    · exact .inr (ended_requestsSame i _ s)
  · exact .inr (requestsSame_refl s)

/-- A state in the course of the tick that began in `s`. -/
structure Ticking (s c : State) : Prop where
  distinct : EntriesDistinct c
  one : OneServed s → OneServed c

theorem ticking_tickLease {s c : State} (h : Ticking s c) (i : Nat) : Ticking s (tickLease c i) :=
  ⟨tickLease_distinct h.distinct i, fun isOne => (tickLease_path (distinct := True) (fun _ => h.distinct) i).oneServed trivial (h.one isOne)⟩

theorem ticking_ended {s c : State} (h : Ticking s c) (i : Nat) (state : LockState) :
    EntriesDistinct (setLockState i state c) ∧ (OneServed s → OneServed (setLockState i state c)) :=
  ⟨h.distinct, fun isOne => oneServed_of_frame (h.one isOne) rfl rfl⟩

theorem fated_tickLease {s c : State} (h : Ticking s c) (i : Nat) {r : Request} (k : Fated s c r) : Fated s (tickLease c i) r := by
  rcases tickLease_cases c i with ⟨lock, _, _, result⟩ | same
  · obtain ⟨distinct, one⟩ := ticking_ended h i (.ended lock .expired)
    rw [result, ceaseLock_eq]
    exact fated_ceased (joins_joinPending _ _) distinct one (fated_of_same (ended_requestsSame i (.ended lock .expired) c) k)
  · exact fated_of_same same k

theorem ownerTold_tickLease {s c : State} (h : Ticking s c) (i : Nat) {owner : Port} {extent : Extent} (k : OwnerTold s c owner extent) :
    OwnerTold s (tickLease c i) owner extent := by
  rcases tickLease_cases c i with ⟨lock, _, _, result⟩ | same
  · obtain ⟨distinct, one⟩ := ticking_ended h i (.ended lock .expired)
    rw [result, ceaseLock_eq]
    exact ownerTold_ceased (joins_joinPending _ _) distinct one (ownerTold_of_same (ended_requestsSame i (.ended lock .expired) c) k)
  · exact ownerTold_of_same same k

theorem tickLease_pending {c : State} (i : Nat) {p : Port} {item : OwnerRef} (h : item ∈ c.pendingRecords.get p) :
    item ∈ (tickLease c i).pendingRecords.get p := by
  rcases tickLease_cases c i with ⟨lock, _, _, result⟩ | same
  · rw [result, ceaseLock_eq]
    exact (ceased_kept (joins_joinPending _ _) (setLockState i (.ended lock .expired) c)).1 p item h
  · exact same.pendingRecords p item h

/-- The turn of an entry at its last tick. -/
theorem told_tickLease {s c : State} (h : Ticking s c) (k : ∀ r ∈ s.requests, Fated s c r) {i : Nat} {lock : Lock}
    (last : (lockAt c i).state = .held lock (.reported (some 1))) :
    OwnerTold s (tickLease c i) lock.owner lock.extent ∧ OwnerRef.lock i ∈ (tickLease c i).pendingRecords.get lock.owner := by
  obtain ⟨distinct, one⟩ := ticking_ended h i (.ended lock .expired)
  rw [tickLease_of_last last]
  refine ⟨?_, ceaseLock_pending i lock .expired c⟩
  rw [ceaseLock_eq]
  exact told_ceased (joins_joinPending _ _) distinct one
    fun r mem => fated_of_same (ended_requestsSame i (.ended lock .expired) c) (k r mem)

theorem foldl_tickLease_fated (l : List Nat) {s c : State} (h : Ticking s c) (k : ∀ r ∈ s.requests, Fated s c r) :
    Ticking s (l.foldl tickLease c) ∧ ∀ r ∈ s.requests, Fated s (l.foldl tickLease c) r := by
  induction l generalizing c with
  | nil => exact ⟨h, k⟩
  | cons i l ih => exact ih (ticking_tickLease h i) fun r mem => fated_tickLease h i (k r mem)

theorem foldl_tickLease_told (l : List Nat) {s c : State} (h : Ticking s c) {owner : Port} {extent : Extent} {item : OwnerRef}
    (k : OwnerTold s c owner extent ∧ item ∈ c.pendingRecords.get owner) :
    OwnerTold s (l.foldl tickLease c) owner extent ∧ item ∈ (l.foldl tickLease c).pendingRecords.get owner := by
  induction l generalizing c with
  | nil => exact k
  | cons i l ih => exact ih (ticking_tickLease h i) ⟨ownerTold_tickLease h i k.1, tickLease_pending i k.2⟩

theorem foldl_tickLease_lockAt {l : List Nat} {i : Nat} (notMem : i ∉ l) (s : State) : lockAt (l.foldl tickLease s) i = lockAt s i := by
  induction l generalizing s with
  | nil => rfl
  | cons j l ih =>
    obtain ⟨other, notMem'⟩ := not_or.mp fun h => notMem (List.mem_cons.mpr h)
    rw [List.foldl_cons, ih notMem', lockAt_tickLease_ne other]

/-- The turns of a tick, around that of one entry. -/
theorem tickLeases_split {i : Nat} (inside : i < 16) : ∃ before after : List Nat, i ∉ before ∧ i ∉ after ∧
    ∀ s, tickLeases s = after.foldl tickLease (tickLease (before.foldl tickLease s) i) := by
  obtain ⟨before, after, split⟩ := List.append_of_mem (List.mem_range.mpr inside)
  have nodup := split ▸ List.nodup_range
  obtain ⟨_, nodupAfter, apart⟩ := List.nodup_append.mp nodup
  refine ⟨before, after, fun mem => apart i mem i List.mem_cons_self rfl, (List.nodup_cons.mp nodupAfter).1, fun s => ?_⟩
  rw [tickLeases, show Config.lockEntries = 16 from rfl, split, List.foldl_append, List.foldl_cons]

/-- The Lock Table entry after the tick, before any re-examination, is the one its own turn leaves. -/
theorem lockAt_tickLeases {i : Nat} (inside : i < 16) (s : State) : ∃ c : State, c.locks.length = s.locks.length ∧
    lockAt c i = lockAt s i ∧ lockAt (tickLeases s) i = lockAt (tickLease c i) i := by
  obtain ⟨before, after, notBefore, notAfter, split⟩ := tickLeases_split inside
  refine ⟨before.foldl tickLease s, ?_, foldl_tickLease_lockAt notBefore s, ?_⟩
  · refine List.foldlRecOn (motive := fun c => c.locks.length = s.locks.length) before tickLease rfl fun c same i _ => ?_
    exact (tickLease_relaxed c i).length.trans same
  · rw [split, foldl_tickLease_lockAt notAfter]

/-! ### The rest of the event -/

theorem tickWaiter_lock {s : State} (x : Waiter) {w : Waiter} (mem : w ∈ (tickWaiter s x).waiters) : ∃ v ∈ s.waiters, v.lock = w.lock := by
  have mapped : ∀ state : WaiterState, w ∈ s.waiters.map (fun v => if v.slot = x.slot then { v with state := state } else v) →
      ∃ v ∈ s.waiters, v.lock = w.lock := fun state mem => by
    obtain ⟨v, hv, rfl⟩ := List.mem_map.mp mem
    refine ⟨v, hv, ?_⟩
    split <;> rfl
  unfold tickWaiter at mem
  split at mem
  · split at mem
    · exact mapped _ mem
    · exact mapped _ mem
  · exact ⟨w, mem, rfl⟩

/-- The entry after the event is the one the tick leaves, or a FREE one granted to a waiter. -/
theorem afterWaits_locks (s : State) (i : Nat) :
    LeftOrGranted s.waiters (lockAt (tickLeases s) i) (lockAt (afterWaits (afterLeases s)) i) := by
  have waiters : (tickLeases s).waiters = s.waiters :=
    List.foldlRecOn (motive := fun c => c.waiters = s.waiters) _ tickLease rfl fun c same i _ => (tickLease_waiters c i).trans same
  have leases : LeftOrGranted s.waiters (lockAt (tickLeases s) i) (lockAt (afterLeases s) i) ∧
      (afterLeases s).waiters.Sublist s.waiters := by
    unfold afterLeases
    split
    · have granted := reexamine_grantedFrom (tickLeases s)
      rw [waiters] at granted
      exact ⟨granted.locks i, granted.waiters.trans (sublist_of_eq waiters)⟩
    · exact ⟨.inl rfl, sublist_of_eq waiters⟩
  have ticked : ∀ w ∈ (tickWaiters (afterLeases s)).waiters, ∃ v ∈ s.waiters, v.lock = w.lock := by
    refine List.foldlRecOn (motive := fun c : State => ∀ w ∈ c.waiters, ∃ v ∈ s.waiters, v.lock = w.lock) _ tickWaiter
      (fun w mem => ⟨w, leases.2.subset mem, rfl⟩) fun c inv x _ w mem => ?_
    obtain ⟨u, hu, lock⟩ := tickWaiter_lock x mem
    obtain ⟨v, hv, lock'⟩ := inv u hu
    exact ⟨v, hv, lock'.trans lock⟩
  refine leftOrGranted_trans leases.1 ?_
  unfold afterWaits
  split
  · have granted := leftOrGranted_mono ticked ((reexamine_grantedFrom (tickWaiters (afterLeases s))).locks i)
    rwa [lockAt_congr (tickWaiters_locks _)] at granted
  · exact .inl (lockAt_congr (tickWaiters_locks _) i)

theorem tickWaiters_requestsSame (s : State) : RequestsSame s (tickWaiters s) :=
  requestsSame_of_locksOnly (List.foldlRecOn (motive := fun c => LocksOnly s c) _ tickWaiter rfl
    fun c h w _ => locksOnly_trans h (tickWaiter_locksOnly c w)) fun _ _ mem => foldl_tickWaiter_pending s.waiters mem

theorem afterWaits_requestsSame (s : State) : RequestsSame (tickLeases s) (afterWaits (afterLeases s)) := by
  have leases : RequestsSame (tickLeases s) (afterLeases s) := by
    unfold afterLeases
    split
    · exact reexamine_requestsSame _
    · exact requestsSame_refl _
  refine requestsSame_trans leases ?_
  unfold afterWaits
  split
  · exact requestsSame_trans (tickWaiters_requestsSame _) (reexamine_requestsSame _)
  · exact tickWaiters_requestsSame _

/-- Settles O25: the turn of each entry, and what the rest of the event leaves of it. -/
theorem leaseTickLowersTheLeases : Obligations.LeaseTickLowersTheLeases := by
  intro s distinct full
  obtain ⟨t, next, work⟩ := exec_leaseTick_locksAndWork s
  have result : t = settle (afterWaits (afterLeases s)) ∨ t = afterWaits (afterLeases s) := by
    rw [exec_leaseTick_eq] at next
    split at next <;> cases next
    · exact .inl rfl
    · exact .inr rfl
  have locks : ∀ i, LeftOrGranted s.waiters (lockAt (tickLeases s) i) (lockAt t i) := fun i => by
    rcases result with rfl | rfl
    · rw [lockAt_congr (settle_workOnly _).locks]
      exact afterWaits_locks s i
    · exact afterWaits_locks s i
  have told : ∀ {owner : Port} {extent : Extent} {item : OwnerRef}, EntriesDistinct (tickLeases s) →
      OwnerTold s (tickLeases s) owner extent ∧ item ∈ (tickLeases s).pendingRecords.get owner →
      OwnerTold s t owner extent ∧ item ∈ t.pendingRecords.get owner := fun distinct' ⟨told, waits⟩ => by
    have same := afterWaits_requestsSame s
    have told' := ownerTold_of_same same told
    rcases result with rfl | rfl
    · exact ⟨ownerTold_settle (entriesDistinct_congr same.requests distinct') told',
        (settle_kept _).pendingRecords _ _ (same.pendingRecords _ _ waits)⟩
    · exact ⟨told', same.pendingRecords _ _ waits⟩
  refine ⟨t, next, ⟨work.pending, work.windows, work.windowBase, work.initLine, work.enables, work.completions, work.notices, work.watches,
    rfl, rfl, work.settings, work.token⟩, fun i inside => ?_⟩
  obtain ⟨c, length, before, turn⟩ := lockAt_tickLeases inside s
  have stands : (lockAt (tickLeases s) i).state ≠ .free → lockAt t i = lockAt (tickLease c i) i := fun notFree =>
    (leftOrGranted_eq_of_not_free (locks i) notFree).trans turn
  have left : tickLease c i = c → (lockAt s i).state ≠ .free → lockAt t i = lockAt s i := fun same notFree => by
    rw [same, before] at turn
    exact (leftOrGranted_eq_of_not_free (locks i) (by rw [turn]; exact notFree)).trans turn
  refine ⟨fun g lock n entry running => ?_, fun g lock entry => ?_, fun g lock entry => ?_, fun g lock entry => ?_, fun g lock kind entry => ?_,
    fun free => ?_⟩
  · have lowered : lockAt (tickLease c i) i = ⟨g, .held lock (.reported (some (n - 1)))⟩ := by
      have state : (lockAt c i).state = .held lock (.reported (some n)) := by rw [before, entry]
      simp only [tickLease, state, if_neg (show ¬ n ≤ 1 by omega)]
      rw [lockAt_setLockState, if_pos ⟨rfl, by omega⟩, before, entry]
    rw [stands (by rw [turn, lowered]; exact nofun), lowered]
  · have state : (lockAt s i).state = .held lock (.reported (some 1)) := by rw [entry]
    obtain ⟨early, late, notEarly, _, split⟩ := tickLeases_split inside
    obtain ⟨ticking, fated⟩ := foldl_tickLease_fated early (s := s) (c := s) ⟨distinct, id⟩ fun _ mem => fated_refl mem
    have lastTurn := told_tickLease ticking fated (i := i) (lock := lock) (by rw [foldl_tickLease_lockAt notEarly, state])
    have all := foldl_tickLease_told late (ticking_tickLease ticking i) lastTurn
    rw [← split] at all
    have distinct' : EntriesDistinct (tickLeases s) :=
      (foldl_tickLease_fated _ (s := s) (c := s) ⟨distinct, id⟩ fun _ mem => fated_refl mem).1.distinct
    obtain ⟨told', waits⟩ := told distinct' all
    refine ⟨lockCeased_of_told ?_ told', waits⟩
    have ended : lockAt (tickLease c i) i = ⟨(lockAt s i).generation, .ended lock .expired⟩ := by
      rw [tickLease_of_last (by rw [before, state]), lockAt_congr (ceaseLock_locks _ _ _ _),
        lockAt_ended (by rw [before, state]; exact nofun), if_pos rfl, before]
    rw [stands (by rw [turn, ended]; exact nofun), ended]
  · refine left ?_ (by rw [entry]; exact nofun)
    simp only [tickLease, before, entry]
  · refine left ?_ (by rw [entry]; exact nofun)
    simp only [tickLease, before, entry]
  · refine left ?_ (by rw [entry]; exact nofun)
    simp only [tickLease, before, entry]
  · have same : lockAt (tickLeases s) i = lockAt s i := by
      have idle : tickLease c i = c := by simp only [tickLease, before, free]
      rw [turn, idle, before]
    rw [← same]
    exact locks i

end Sys2Proof.Machine
end

section
/-! The engines at the end of an event: the claims of the prefetches and the choices of work, step by step, and what stands settled after
them (chapter 7). -/

namespace Sys2Proof.Machine

open Sys2Proof.Safety

/-! ### The buffers an engine may take (R129, R133) -/

theorem mem_buffers_iff {s : State} {b : Buffer} : some b ∈ s.buffers ↔ ∃ i, bufferAt s i = some b := by
  rw [List.mem_iff_getElem?]
  exact exists_congr fun i => bufferAt_eq_some.symm

theorem bufferAt_congr {s t : State} (h : t.buffers = s.buffers) (i : Nat) : bufferAt t i = bufferAt s i := by
  rw [bufferAt, bufferAt, h]

theorem mem_loadingBuffers {s : State} {entry i : Nat} {b : Buffer} :
    (i, b) ∈ loadingBuffers s entry ↔ bufferAt s i = some b ∧ b.entry = entry ∧ ∃ data, b.state = .loading data := by
  rw [loadingBuffers, List.mem_filter, mem_boundBuffers, and_assoc]
  refine and_congr_right fun _ => and_congr_right fun _ => ?_
  cases b.state <;> simp

theorem mem_fullBuffers {s : State} {entry i : Nat} {b : Buffer} :
    (i, b) ∈ fullBuffers s entry ↔ bufferAt s i = some b ∧ b.entry = entry ∧ ∃ data, b.state = .full data := by
  rw [fullBuffers, List.mem_filter, mem_boundBuffers, and_assoc]
  refine and_congr_right fun _ => and_congr_right fun _ => ?_
  cases b.state <;> simp

theorem hasDraining_iff {s : State} {entry : Nat} :
    hasDraining s entry = true ↔ ∃ c, some c ∈ s.buffers ∧ c.entry = entry ∧ ∃ moved data, c.state = .draining moved data := by
  rw [hasDraining, List.any_eq_true]
  constructor
  · rintro ⟨⟨i, c⟩, mem, test⟩
    obtain ⟨at_i, bound⟩ := mem_boundBuffers.mp mem
    refine ⟨c, mem_buffers_iff.mpr ⟨i, at_i⟩, bound, ?_⟩
    cases state : c.state <;> simp [state] at test ⊢
  · rintro ⟨c, mem, bound, moved, data, state⟩
    obtain ⟨i, at_i⟩ := mem_buffers_iff.mp mem
    exact ⟨(i, c), mem_boundBuffers.mpr ⟨at_i, bound⟩, by simp [state]⟩

/-- The buffer of a READ that is eligible for delivery, and when there is none. -/
theorem eligibleFull_some {s : State} {entry i : Nat} {b : Buffer} (h : eligibleFull s entry = some (i, b)) :
    bufferAt s i = some b ∧ b.entry = entry ∧ (∃ data, b.state = .full data) ∧
      ∀ c data, some c ∈ s.buffers → c.entry = entry → c.state = .full data → b.block ≤ c.block := by
  unfold eligibleFull at h
  split at h
  · cases h
  · obtain ⟨at_i, bound, full⟩ := mem_fullBuffers.mp (mem_of_pickLeast h)
    refine ⟨at_i, bound, full, fun c data mem own state => ?_⟩
    obtain ⟨j, at_j⟩ := mem_buffers_iff.mp mem
    exact pickLeast_le (y := (j, c)) h (mem_fullBuffers.mpr ⟨at_j, own, data, state⟩)

theorem eligibleFull_none {s : State} {entry : Nat} (h : eligibleFull s entry = none) {b : Buffer} (mem : some b ∈ s.buffers)
    (own : b.entry = entry) {data : List Word} (state : b.state = .full data) :
    ∃ c, some c ∈ s.buffers ∧ c.entry = entry ∧ ∃ moved data, c.state = .draining moved data := by
  unfold eligibleFull at h
  split at h
  · next draining => exact hasDraining_iff.mp draining
  · obtain ⟨i, at_i⟩ := mem_buffers_iff.mp mem
    have full : (i, b) ∈ fullBuffers s entry := mem_fullBuffers.mpr ⟨at_i, own, data, state⟩
    rw [pickLeast_none.mp h] at full
    cases full

theorem notEligible_of_none {s : State} {r : Request} (h : eligibleFull s r.index = none) (reads : ∃ a, r.operation = .read a) (b : Buffer) :
    ¬ Eligible s r b := by
  rintro ⟨mem, own, _, ⟨_, ⟨a, writes⟩, _⟩ | ⟨_, _, ⟨data, state⟩, none⟩⟩
  · obtain ⟨a', reads⟩ := reads
    rw [reads] at writes
    cases writes
  · obtain ⟨c, hc, own', moved, data', draining⟩ := eligibleFull_none h mem own state
    exact none c hc own' moved data' draining

/-- An ACTIVE request without eligible work. -/
theorem notEligible_of_activeWork {s : State} {r : Request} (h : activeWork s (s.engines.get r.port) r = none) (b : Buffer) :
    ¬ Eligible s r b := by
  unfold activeWork at h
  cases operation : r.operation with
  | read a =>
    simp only [operation] at h
    exact notEligible_of_none h ⟨a, operation⟩ b
  | write a =>
    simp only [operation] at h
    rintro ⟨mem, own, _, ⟨_, _, ⟨data, state⟩, f, prefetch, isEntry⟩ | ⟨_, ⟨a', reads⟩, _⟩⟩
    · rw [prefetch, Option.map_some, isEntry, if_pos rfl] at h
      obtain ⟨i, at_i⟩ := mem_buffers_iff.mp mem
      have loading : (i, b) ∈ loadingBuffers s r.index := mem_loadingBuffers.mpr ⟨at_i, own, data, state⟩
      rw [pickLeast_none.mp h] at loading
      cases loading
    · rw [operation] at reads
      cases reads
  | _ =>
    rintro ⟨_, _, _, ⟨_, ⟨a, writes⟩, _⟩ | ⟨_, ⟨a, reads⟩, _⟩⟩
    · rw [operation] at writes
      cases writes
    · rw [operation] at reads
      cases reads

theorem activeWork_some {s : State} {e : Engine} {r : Request} {i : Nat} {b : Buffer} (h : activeWork s e r = some (i, b)) :
    bufferAt s i = some b ∧ b.entry = r.index ∧
      (((∃ a, r.operation = .write a) ∧ (∃ data, b.state = .loading data) ∧
          ∀ c data, some c ∈ s.buffers → c.entry = r.index → c.state = .loading data → b.block ≤ c.block) ∨
        ((∃ a, r.operation = .read a) ∧ (∃ data, b.state = .full data) ∧
          ∀ c data, some c ∈ s.buffers → c.entry = r.index → c.state = .full data → b.block ≤ c.block)) := by
  unfold activeWork at h
  cases operation : r.operation with
  | read a =>
    simp only [operation] at h
    obtain ⟨at_i, own, full, least⟩ := eligibleFull_some h
    exact ⟨at_i, own, .inr ⟨⟨a, rfl⟩, full, least⟩⟩
  | write a =>
    simp only [operation] at h
    split at h
    · obtain ⟨at_i, own, loading⟩ := mem_loadingBuffers.mp (mem_of_pickLeast h)
      refine ⟨at_i, own, .inl ⟨⟨a, rfl⟩, loading, fun c data mem own' state => ?_⟩⟩
      obtain ⟨j, at_j⟩ := mem_buffers_iff.mp mem
      exact pickLeast_le (y := (j, c)) h (mem_loadingBuffers.mpr ⟨at_j, own', data, state⟩)
    · cases h
  | _ =>
    simp only [operation] at h
    cases h

/-- The requests an engine may work for: those of its port but the one it has given up. -/
def worksFor (s : State) (p : Port) (r : Request) : Bool :=
  decide (r.port = p) && decide ((s.engines.get p).givenUp ≠ some r.index)

theorem worksFor_iff {s : State} {p : Port} {r : Request} :
    worksFor s p r = true ↔ r.port = p ∧ (s.engines.get p).givenUp ≠ some r.index := by
  rw [worksFor, Bool.and_eq_true, decide_eq_true_eq, decide_eq_true_eq]

theorem engineWork_eq (s : State) (p : Port) : engineWork s p =
    match ((s.requests.filter (worksFor s p)).find? Request.isActive).bind (activeWork s (s.engines.get p)) with
    | some x => some x
    | none => ((s.requests.filter (worksFor s p)).filter Request.isDraining).findSome? fun r => eligibleFull s r.index := rfl

/-- No ACTIVE request of a sound table has work, when the first found has none. -/
theorem notEligible_active {s : State} (one : OneServed s) {p : Port}
    (h : ((s.requests.filter (worksFor s p)).find? Request.isActive).bind (activeWork s (s.engines.get p)) = none)
    {r : Request} (mem : r ∈ s.requests) (own : r.port = p) (active : r.isActive = true) (b : Buffer) : ¬ Eligible s r b := by
  have servedIs : ∀ q : Request, q.isActive = true → served q = true := fun q h => by rw [served, h]; rfl
  intro eligible
  have notGivenUp := eligible.2.2.1
  rw [own] at notGivenUp
  have mine : r ∈ s.requests.filter (worksFor s p) := List.mem_filter.mpr ⟨mem, worksFor_iff.mpr ⟨own, notGivenUp⟩⟩
  cases found : (s.requests.filter (worksFor s p)).find? Request.isActive with
  | none => exact List.find?_eq_none.mp found r mine active
  | some q =>
    have active' := List.find?_some found
    have same : r = q := served_unique one mem (List.mem_filter.mp (List.mem_of_find?_eq_some found)).1 (servedIs r active) (servedIs q active')
    rw [found, Option.bind_some, ← same, ← own] at h
    exact notEligible_of_activeWork h b eligible

/-- An engine that finds no work has none. -/
theorem engineWork_none {s : State} (one : OneServed s) {p : Port} (h : engineWork s p = none) {r : Request} (mem : r ∈ s.requests)
    (own : r.port = p) (b : Buffer) : ¬ Eligible s r b := by
  rw [engineWork_eq] at h
  split at h
  · cases h
  · next noneActive =>
    intro eligible
    by_cases active : r.isActive = true
    · exact notEligible_active one noneActive mem own active b eligible
    · obtain ⟨inPool, own', notGivenUp, ⟨isActive, _⟩ | ⟨state, reads, _⟩⟩ := id eligible
      · exact active isActive
      · have draining := state.resolve_left active
        rw [own] at notGivenUp
        have mine : r ∈ (s.requests.filter (worksFor s p)).filter Request.isDraining :=
          List.mem_filter.mpr ⟨List.mem_filter.mpr ⟨mem, worksFor_iff.mpr ⟨own, notGivenUp⟩⟩, draining⟩
        exact notEligible_of_none (List.findSome?_eq_none_iff.mp h r mine) reads b eligible

/-- The work an engine takes: which buffer, and of which request. -/
structure Takes (s : State) (p : Port) (i : Nat) (b : Buffer) (r : Request) : Prop where
  buffer : bufferAt s i = some b
  request : r ∈ s.requests
  port : r.port = p
  notGivenUp : (s.engines.get p).givenUp ≠ some r.index
  entry : b.entry = r.index
  chosen : (r.isActive = true ∧ (∃ a, r.operation = .write a) ∧ (∃ data, b.state = .loading data) ∧
      ∀ c data, some c ∈ s.buffers → c.entry = r.index → c.state = .loading data → b.block ≤ c.block) ∨
    ((∃ data, b.state = .full data) ∧
      (∀ c data, some c ∈ s.buffers → c.entry = r.index → c.state = .full data → b.block ≤ c.block) ∧
      ((r.isActive = true ∧ ∃ a, r.operation = .read a) ∨
        (r.isDraining = true ∧ (∀ q ∈ s.requests, q.port = p → q.isActive = true → ∀ c, ¬ Eligible s q c) ∧
          ∃ older younger, s.requests = older ++ r :: younger ∧
            ∀ q ∈ older, q.port = p → q.isDraining = true → ∀ c, ¬ Eligible s q c)))

theorem notActive_of_draining {r : Request} (h : r.isDraining = true) : r.isActive ≠ true := by
  unfold Request.isDraining at h
  unfold Request.isActive
  cases state : r.state <;> simp [state] at h ⊢

theorem engineWork_takes {s : State} (one : OneServed s) {p : Port} {i : Nat} {b : Buffer} (h : engineWork s p = some (i, b)) :
    ∃ r, Takes s p i b r := by
  rw [engineWork_eq] at h
  split at h
  · next x active =>
    cases h
    obtain ⟨r, found, work⟩ := Option.bind_eq_some_iff.mp active
    obtain ⟨mem, test⟩ := List.mem_filter.mp (List.mem_of_find?_eq_some found)
    obtain ⟨own, notGivenUp⟩ := worksFor_iff.mp test
    have isActive := List.find?_some found
    obtain ⟨at_i, entry, ⟨writes, loading, least⟩ | ⟨reads, full, least⟩⟩ := activeWork_some work
    · exact ⟨r, at_i, mem, own, notGivenUp, entry, .inl ⟨isActive, writes, loading, least⟩⟩
    · exact ⟨r, at_i, mem, own, notGivenUp, entry, .inr ⟨full, least, .inl ⟨isActive, reads⟩⟩⟩
  · next noneActive =>
    obtain ⟨before, r, after, split, work, idle⟩ := List.findSome?_eq_some_iff.mp h
    rw [List.filter_filter] at split
    obtain ⟨older, younger, isAt, isOlder⟩ := split_of_filter split
    have mem : r ∈ s.requests := by
      rw [isAt]
      exact List.mem_append_right _ List.mem_cons_self
    have test : (r.isDraining && worksFor s p r) = true := by
      have : r ∈ s.requests.filter fun r => r.isDraining && worksFor s p r := by
        rw [split]
        exact List.mem_append_right _ List.mem_cons_self
      exact (List.mem_filter.mp this).2
    obtain ⟨draining, works⟩ := Bool.and_eq_true_iff.mp test
    obtain ⟨own, notGivenUp⟩ := worksFor_iff.mp works
    obtain ⟨at_i, entry, full, least⟩ := eligibleFull_some work
    refine ⟨r, at_i, mem, own, notGivenUp, entry, .inr ⟨full, least, .inr ⟨draining,
      fun q mem' own' active c => notEligible_active one noneActive mem' own' active c, older, younger, isAt, fun q mem' own' draining' c => ?_⟩⟩⟩
    intro eligible
    obtain ⟨_, _, notGivenUp', ⟨isActive, _⟩ | ⟨_, reads, _⟩⟩ := id eligible
    · exact notActive_of_draining draining' isActive
    · rw [own'] at notGivenUp'
      have earlier : q ∈ before := by
        rw [← isOlder]
        exact List.mem_filter.mpr ⟨mem', Bool.and_eq_true_iff.mpr ⟨draining', worksFor_iff.mpr ⟨own', notGivenUp'⟩⟩⟩
      exact notEligible_of_none (idle q earlier) reads c eligible

end Sys2Proof.Machine
end

section
/-! The end of an event as the engines take it, one claim or choice after another: what every step leaves of the engines and the buffers,
and what stands settled when all are done (R125, R127, R130, R133). -/

namespace Sys2Proof.Machine

open Sys2Proof.Safety

/-! ### One step -/

/-- A claim that waits for want of a FREE buffer. -/
def waitingFor (p : Port) (f : Prefetch) (s : State) : State := s.modifyEngine p fun e => { e with waitingClaim := some f.next }

/-- A claim granted on the FREE buffer `i`. -/
def claimed (p : Port) (f : Prefetch) (i : Nat) (s : State) : State :=
  (setBuffer i (some ⟨f.entry, f.next, .loading []⟩) s).modifyEngine p fun e =>
    { e with prefetch := some ⟨f.entry, f.next + 1⟩, waitingClaim := none }

/-- The work `b` in buffer `i` taken by the engine of a port. -/
def took (p : Port) (i : Nat) (b : Buffer) (s : State) : State :=
  requestBus p ((setBuffer i (some b.taken) s).modifyEngine p fun e => { e with current := some i })

/-- A step of the engines at the end of an event. -/
inductive EngineStep : State → State → Prop
  | waits {s : State} {p : Port} {f : Prefetch} (prefetch : (s.engines.get p).prefetch = some f)
      (may : mayClaim s (s.engines.get p) f = true) (full : none ∉ s.buffers) : EngineStep s (waitingFor p f s)
  | claims {s : State} {p : Port} {f : Prefetch} {i : Nat} (prefetch : (s.engines.get p).prefetch = some f)
      (may : mayClaim s (s.engines.get p) f = true) (free : s.buffers[i]? = some none) : EngineStep s (claimed p f i s)
  | takes {s : State} {p : Port} {i : Nat} {b : Buffer} (idle : (s.engines.get p).current = none) (taking : s.initLine.get p = false)
      (work : engineWork s p = some (i, b)) : EngineStep s (took p i b s)

/-- Steps of the engines, one after another. -/
def EnginePath : State → State → Prop := Relation.ReflTransGen EngineStep

theorem prefetchPort_cases (p : Port) (n : Nat) (s : State) :
    (prefetchPort p (n + 1) s = s ∧ ∀ f, (s.engines.get p).prefetch = some f → mayClaim s (s.engines.get p) f = false) ∨
    (∃ f, (s.engines.get p).prefetch = some f ∧ mayClaim s (s.engines.get p) f = true ∧ none ∉ s.buffers ∧
      prefetchPort p (n + 1) s = waitingFor p f s) ∨
    ∃ f i, (s.engines.get p).prefetch = some f ∧ mayClaim s (s.engines.get p) f = true ∧ s.buffers[i]? = some none ∧
      prefetchPort p (n + 1) s = prefetchPort p n (claimed p f i s) := by
  cases prefetch : (s.engines.get p).prefetch with
  | none => exact .inl ⟨by simp only [prefetchPort, prefetch], nofun⟩
  | some f =>
    cases may : mayClaim s (s.engines.get p) f with
    | false =>
      refine .inl ⟨by simp only [prefetchPort, prefetch, may, Bool.false_eq_true, if_false], fun g same => ?_⟩
      cases same
      exact may
    | true =>
      cases free : lowestFreeBuffer s with
      | none =>
        exact .inr (.inl ⟨f, rfl, may, lowestFreeBuffer_none.mp free, by
          simp only [prefetchPort, prefetch, may, if_true, free]
          rfl⟩)
      | some i =>
        exact .inr (.inr ⟨f, i, rfl, may, lowestFreeBuffer_some free, by
          simp only [prefetchPort, prefetch, may, if_true, free]
          rfl⟩)

theorem prefetchPort_path (p : Port) (n : Nat) (s : State) : EnginePath s (prefetchPort p n s) := by
  induction n generalizing s with
  | zero => exact .refl
  | succ n ih =>
    rcases prefetchPort_cases p n s with ⟨same, _⟩ | ⟨f, prefetch, may, full, result⟩ | ⟨f, i, prefetch, may, free, result⟩
    · rw [same]
      exact .refl
    · rw [result]
      exact .single (.waits prefetch may full)
    · rw [result]
      exact .head (.claims prefetch may free) (ih _)

theorem chooseWork_cases (p : Port) (s : State) :
    (chooseWork p s = s ∧ ((s.engines.get p).current = none → s.initLine.get p = false → engineWork s p = none)) ∨
    ∃ i b, (s.engines.get p).current = none ∧ s.initLine.get p = false ∧ engineWork s p = some (i, b) ∧
      chooseWork p s = took p i b s := by
  by_cases free : (s.engines.get p).current = none ∧ s.initLine.get p = false
  · cases work : engineWork s p with
    | none => exact .inl ⟨by simp only [chooseWork, if_pos free, work], fun _ _ => rfl⟩
    | some x => exact .inr ⟨x.1, x.2, free.1, free.2, rfl, by simp only [chooseWork, if_pos free, work]; rfl⟩
  · exact .inl ⟨by simp only [chooseWork, if_neg free], fun idle taking => absurd ⟨idle, taking⟩ free⟩

theorem chooseWork_path (p : Port) (s : State) : EnginePath s (chooseWork p s) := by
  rcases chooseWork_cases p s with ⟨same, _⟩ | ⟨i, b, idle, taking, work, result⟩
  · rw [same]
    exact .refl
  · rw [result]
    exact .single (.takes idle taking work)

theorem forPorts_path {f : Port → State → State} (h : ∀ p s, EnginePath s (f p s)) (s : State) : EnginePath s (forPorts f s) :=
  ((h .a s).trans (h .b _)).trans ((h .c _).trans (h .d _))

theorem engineRound_path (s : State) : EnginePath s (engineRound s) :=
  (forPorts_path (fun p => prefetchPort_path p _) s).trans (forPorts_path chooseWork_path _)

theorem EngineStep.only {s t : State} (h : EngineStep s t) : EnginesOnly s t := by
  cases h with
  | waits prefetch may full => exact modifyEngine_enginesOnly s _ _
  | claims prefetch may free => exact enginesOnly_trans (setBuffer_enginesOnly _ _ s) (modifyEngine_enginesOnly _ _ _)
  | takes idle taking work =>
    exact ⟨rfl, rfl, ⟨rfl, rfl, rfl, rfl⟩, rfl, rfl⟩

theorem EngineStep.oneServed {s t : State} (h : EngineStep s t) (one : OneServed s) : OneServed t :=
  oneServed_of_frame one h.only.requests h.only.drive.sequencer

/-! ### The engines in a step -/

theorem waitingFor_engine (p q : Port) (f : Prefetch) (s : State) : (waitingFor p f s).engines.get q =
    if q = p then { s.engines.get p with waitingClaim := some f.next } else s.engines.get q := PortMap.get_set _ _ _ _

theorem claimed_engine (p q : Port) (f : Prefetch) (i : Nat) (s : State) : (claimed p f i s).engines.get q =
    if q = p then { s.engines.get p with prefetch := some ⟨f.entry, f.next + 1⟩, waitingClaim := none } else s.engines.get q :=
  PortMap.get_set _ _ _ _

theorem took_engine (p q : Port) (i : Nat) (b : Buffer) (s : State) : (took p i b s).engines.get q =
    if q = p then { s.engines.get p with current := some i, state := .requesting, timer := some s.settings.hostBusTimeout }
    else s.engines.get q := by
  show ((s.engines.set p _).set p _).get q = _
  rw [PortMap.get_set]
  by_cases own : q = p
  · rw [if_pos own, if_pos own]
    show ({ (s.engines.set p _).get p with state := _, timer := _ } : Engine) = _
    rw [PortMap.get_set_same]
    rfl
  · rw [if_neg own, if_neg own, PortMap.get_set_ne _ _ _ _ own]

/-- What a step leaves of an engine: what it has given up, whether its burst is withdrawn, the entry of its prefetch, and its work once it has
some. -/
structure EngineKept (e e' : Engine) : Prop where
  givenUp : e'.givenUp = e.givenUp
  withdrawn : e'.withdrawn = e.withdrawn
  prefetch : e'.prefetch.map Prefetch.entry = e.prefetch.map Prefetch.entry
  working : ∀ i, e.current = some i → e'.current = some i ∧ e'.state = e.state ∧ e'.timer = e.timer

theorem engineKept_refl (e : Engine) : EngineKept e e := ⟨rfl, rfl, rfl, fun _ h => ⟨h, rfl, rfl⟩⟩

theorem engineKept_trans {e f g : Engine} (h : EngineKept e f) (k : EngineKept f g) : EngineKept e g :=
  ⟨k.givenUp.trans h.givenUp, k.withdrawn.trans h.withdrawn, k.prefetch.trans h.prefetch, fun i work => by
    obtain ⟨current, state, timer⟩ := h.working i work
    obtain ⟨current', state', timer'⟩ := k.working i current
    exact ⟨current', state'.trans state, timer'.trans timer⟩⟩

theorem EngineStep.kept {s t : State} (h : EngineStep s t) (q : Port) : EngineKept (s.engines.get q) (t.engines.get q) := by
  cases h with
  | @waits p f prefetch may full =>
    rw [waitingFor_engine]
    split
    · next own =>
      subst own
      exact ⟨rfl, rfl, rfl, fun _ h => ⟨h, rfl, rfl⟩⟩
    · exact engineKept_refl _
  | @claims p f i prefetch may free =>
    rw [claimed_engine]
    split
    · next own =>
      subst own
      exact ⟨rfl, rfl, by rw [prefetch]; rfl, fun _ h => ⟨h, rfl, rfl⟩⟩
    · exact engineKept_refl _
  | @takes p i b idle taking work =>
    rw [took_engine]
    split
    · next own =>
      subst own
      exact ⟨rfl, rfl, rfl, fun _ h => absurd (idle.symm.trans h) nofun⟩
    · exact engineKept_refl _

theorem EnginePath.kept {s t : State} (h : EnginePath s t) (q : Port) : EngineKept (s.engines.get q) (t.engines.get q) := by
  induction h with
  | refl => exact engineKept_refl _
  | tail _ step ih => exact engineKept_trans ih (step.kept q)

/-! ### The buffers in a step -/

theorem bufferAt_setBuffer {s : State} {i : Nat} (inside : i < s.buffers.length) (x : Option Buffer) (j : Nat) :
    bufferAt (setBuffer i x s) j = if j = i then x else bufferAt s j := by
  show (s.buffers.set i x).getD j none = _
  rw [List.getD_eq_getElem?_getD, List.getElem?_set]
  by_cases own : i = j
  · rw [if_pos own, if_pos own.symm, if_pos (own ▸ inside), Option.getD_some]
  · rw [if_neg own, if_neg fun h => own h.symm, bufferAt, List.getD_eq_getElem?_getD]

theorem inside_of_at {s : State} {i : Nat} {b : Buffer} (h : bufferAt s i = some b) : i < s.buffers.length :=
  (List.getElem?_eq_some_iff.mp (bufferAt_eq_some.mp h)).1

theorem bufferAt_none_of_free {s : State} {i : Nat} (free : s.buffers[i]? = some none) : bufferAt s i = none := by
  rw [bufferAt, List.getD_eq_getElem?_getD, free, Option.getD_some]

theorem claimed_buffer {s : State} {i : Nat} (free : s.buffers[i]? = some none) (p : Port) (f : Prefetch) (j : Nat) :
    bufferAt (claimed p f i s) j = if j = i then some ⟨f.entry, f.next, .loading []⟩ else bufferAt s j :=
  bufferAt_setBuffer (List.getElem?_eq_some_iff.mp free).1 _ j

theorem took_buffer {s : State} {i : Nat} {b : Buffer} (at_i : bufferAt s i = some b) (p : Port) (j : Nat) :
    bufferAt (took p i b s) j = if j = i then some b.taken else bufferAt s j :=
  bufferAt_setBuffer (inside_of_at at_i) _ j

theorem taken_taken (b : Buffer) : b.taken.taken = b.taken := by
  obtain ⟨entry, block, state⟩ := b
  cases state <;> rfl

theorem taken_of_not_full {b : Buffer} (h : ∀ data, b.state ≠ .full data) : b.taken = b := by
  obtain ⟨entry, block, state⟩ := b
  cases state with
  | full data => exact absurd rfl (h data)
  | _ => rfl

/-- A buffer in use stays as it was, or is taken by an engine. -/
theorem EngineStep.used {s t : State} (h : EngineStep s t) {j : Nat} {x : Buffer} (used : bufferAt s j = some x) :
    bufferAt t j = some x ∨ bufferAt t j = some x.taken := by
  cases h with
  | waits prefetch may full => exact .inl used
  | claims prefetch may free =>
    rw [claimed_buffer free]
    split
    · next same =>
      rw [same, bufferAt_none_of_free free] at used
      cases used
    · exact .inl used
  | takes idle taking work =>
    rw [took_buffer (engineWork_at work)]
    split
    · next same =>
      rw [same, engineWork_at work] at used
      cases used
      exact .inr rfl
    · exact .inl used

theorem EnginePath.used {s t : State} (h : EnginePath s t) {j : Nat} {x : Buffer} (used : bufferAt s j = some x) :
    bufferAt t j = some x ∨ bufferAt t j = some x.taken := by
  induction h with
  | refl => exact .inl used
  | tail _ step ih =>
    rcases ih with same | taken
    · exact step.used same
    · have := step.used taken
      rw [taken_taken, or_self] at this
      exact .inr this

/-- A buffer that an engine has nothing to take of stays as it was. -/
theorem EnginePath.stays {s t : State} (h : EnginePath s t) {j : Nat} {x : Buffer} (used : bufferAt s j = some x)
    (notFull : ∀ data, x.state ≠ .full data) : bufferAt t j = some x := by
  have := h.used used
  rwa [taken_of_not_full notFull, or_self] at this

theorem EngineStep.freeOrClaimed {s t : State} (h : EngineStep s t) {j : Nat} (free : FreeOrClaimed s j) : FreeOrClaimed t j := by
  have claimedIs : ∀ {b q f}, bufferAt s j = some b → b.state = .loading [] → (s.engines.get q).prefetch = some f → f.entry = b.entry →
      FreeOrClaimed t j := fun {b q f} used loading prefetch isEntry => by
    have stays := EnginePath.stays (.single h) used (by rw [loading]; exact nofun)
    have entry := (h.kept q).prefetch
    rw [prefetch] at entry
    obtain ⟨g, prefetch', same⟩ := Option.map_eq_some_iff.mp entry
    exact .inr ⟨b, q, g, stays, loading, prefetch', same.trans isEntry⟩
  rcases free with free | ⟨b, q, f, used, loading, prefetch, isEntry⟩
  · cases h with
    | waits prefetch may full => exact .inl free
    | @claims p f i prefetch may isFree =>
      by_cases own : j = i
      · refine .inr ⟨_, p, ⟨f.entry, f.next + 1⟩, by rw [claimed_buffer isFree, if_pos own], rfl, ?_, rfl⟩
        rw [claimed_engine, if_pos rfl]
      · exact .inl (by rw [claimed_buffer isFree, if_neg own]; exact free)
    | @takes p i b idle taking work =>
      have other : j ≠ i := fun own => by
        rw [own, engineWork_at work] at free
        cases free
      exact .inl (by rw [took_buffer (engineWork_at work), if_neg other]; exact free)
  · exact claimedIs used loading prefetch isEntry

theorem EnginePath.freeOrClaimed {s t : State} (h : EnginePath s t) {j : Nat} (free : FreeOrClaimed s j) : FreeOrClaimed t j := by
  induction h with
  | refl => exact free
  | tail _ step ih => exact step.freeOrClaimed ih

/-- The buffers bound to an entry, counted, after a step. -/
theorem bound_claimed {s : State} {i : Nat} (free : s.buffers[i]? = some none) (p : Port) (f : Prefetch) (entry : Nat) :
    (boundBuffers (claimed p f i s) entry).length = (boundBuffers s entry).length + if f.entry = entry then 1 else 0 := by
  obtain ⟨inside, isFree⟩ := List.getElem?_eq_some_iff.mp free
  rw [boundBuffers_length, boundBuffers_length]
  show (s.buffers.set i _).countP (boundTo entry) = _
  rw [List.countP_set inside, isFree]
  simp [boundTo]

theorem bound_took {s : State} {i : Nat} {b : Buffer} (at_i : bufferAt s i = some b) (p : Port) (entry : Nat) :
    (boundBuffers (took p i b s) entry).length = (boundBuffers s entry).length := by
  rw [boundBuffers_length, boundBuffers_length]
  exact countP_set_same (bufferAt_eq_some.mp at_i) (taken_entry b) entry

theorem EngineStep.bound_le {s t : State} (h : EngineStep s t) (entry : Nat) :
    (boundBuffers s entry).length ≤ (boundBuffers t entry).length := by
  cases h with
  | waits prefetch may full => exact Nat.le_refl _
  | claims prefetch may free =>
    rw [bound_claimed free]
    exact Nat.le_add_right _ _
  | takes idle taking work => exact (bound_took (engineWork_at work) _ entry).ge

/-- A pool that is full stays so. -/
theorem EngineStep.full {s t : State} (h : EngineStep s t) (full : none ∉ s.buffers) : none ∉ t.buffers := by
  cases h with
  | waits prefetch may _ => exact full
  | claims prefetch may free => exact absurd (List.mem_of_getElem? free) full
  | takes idle taking work =>
    intro mem
    rcases List.mem_or_eq_of_mem_set mem with mem | same
    · exact full mem
    · cases same

end Sys2Proof.Machine
end

section
/-! What the claims and the choices leave settled: a prefetch that may claim waits for want of a FREE buffer alone, no engine stands beside
work it could do, and one that has chosen requests its bus or is IDLE (R127, R130, R133). -/

namespace Sys2Proof.Machine

open Sys2Proof.Safety

/-! ### Claims settled (R127, R130) -/

theorem mayClaim_iff {s : State} {e : Engine} {f : Prefetch} : mayClaim s e f = true ↔
    ∃ r, findRequest s f.entry = some r ∧ r.isActive = true ∧ e.givenUp ≠ some f.entry ∧ f.next ≤ r.last ∧
      (boundBuffers s f.entry).length < 3 := by
  unfold mayClaim
  cases found : findRequest s f.entry with
  | none => simp
  | some r =>
    simp only [Bool.and_eq_true, decide_eq_true_eq, and_assoc, Option.some.injEq, exists_eq_left']
    exact Iff.rfl

/-- What may be claimed once more buffers are bound could be claimed before. -/
theorem mayClaim_of_fewer {s t : State} {e e' : Engine} {f : Prefetch} (requests : t.requests = s.requests)
    (bound : (boundBuffers s f.entry).length ≤ (boundBuffers t f.entry).length) (givenUp : e'.givenUp = e.givenUp)
    (may : mayClaim t e' f = true) : mayClaim s e f = true := by
  rw [mayClaim_iff, findRequest_congr requests, givenUp] at may
  obtain ⟨r, found, active, notGivenUp, within, few⟩ := may
  exact mayClaim_iff.mpr ⟨r, found, active, notGivenUp, within, Nat.lt_of_le_of_lt bound few⟩

/-- The prefetch of a port, where it may claim, waits with its claim, for no buffer is FREE. -/
def ClaimSettled (t : State) (p : Port) : Prop :=
  ∀ f, (t.engines.get p).prefetch = some f → mayClaim t (t.engines.get p) f = true →
    none ∉ t.buffers ∧ (t.engines.get p).waitingClaim = some f.next

theorem waitingFor_claimSettled {s : State} {p : Port} {f : Prefetch} (prefetch : (s.engines.get p).prefetch = some f)
    (full : none ∉ s.buffers) : ClaimSettled (waitingFor p f s) p := by
  intro g prefetch' _
  rw [waitingFor_engine, if_pos rfl] at prefetch' ⊢
  have same : f = g := Option.some.inj (prefetch.symm.trans prefetch')
  subst same
  exact ⟨full, rfl⟩

/-- Four turns suffice, for a request holds three buffers at most by its claims. -/
theorem prefetchPort_claimSettled (p : Port) (n : Nat) (s : State)
    (enough : ∀ f, (s.engines.get p).prefetch = some f → 4 ≤ n + (boundBuffers s f.entry).length) :
    ClaimSettled (prefetchPort p n s) p := by
  induction n generalizing s with
  | zero =>
    intro f prefetch may
    obtain ⟨_, _, _, _, _, few⟩ := mayClaim_iff.mp may
    have many := enough f prefetch
    have few' : (boundBuffers s f.entry).length < 3 := few
    omega
  | succ n ih =>
    rcases prefetchPort_cases p n s with ⟨same, none⟩ | ⟨f, prefetch, may, full, result⟩ | ⟨f, i, prefetch, may, free, result⟩
    · rw [same]
      exact fun f prefetch may => absurd (may.symm.trans (none f prefetch)) nofun
    · rw [result]
      exact waitingFor_claimSettled prefetch full
    · rw [result]
      refine ih _ fun g prefetch' => ?_
      rw [claimed_engine, if_pos rfl] at prefetch'
      have entry : g.entry = f.entry := by
        rw [← Option.some.inj prefetch']
      have many := enough f prefetch
      rw [entry, bound_claimed free, if_pos rfl]
      omega

theorem EngineStep.claimSettled {s t : State} (h : EngineStep s t) {p : Port} (settled : ClaimSettled s p) : ClaimSettled t p := by
  intro f prefetch' may'
  have requests := h.only.requests
  have bound := h.bound_le f.entry
  have before : ∀ {e : Engine}, (t.engines.get p).givenUp = e.givenUp → mayClaim s e f = true := fun givenUp =>
    mayClaim_of_fewer requests bound givenUp may'
  have full : ∀ {g}, (s.engines.get p).prefetch = some g → mayClaim s (s.engines.get p) g = true → none ∉ t.buffers := fun prefetch may =>
    h.full (settled _ prefetch may).1
  cases h with
  | @waits q g prefetch may full' =>
    by_cases own : p = q
    · subst own
      exact waitingFor_claimSettled prefetch full' f prefetch' may'
    · rw [waitingFor_engine, if_neg own] at prefetch' before ⊢
      exact ⟨full prefetch' (before rfl), (settled f prefetch' (before rfl)).2⟩
  | @claims q g i prefetch may free =>
    have notFull : ∀ {g'}, (s.engines.get p).prefetch = some g' → mayClaim s (s.engines.get p) g' = true → False := fun prefetch may =>
      (settled _ prefetch may).1 (List.mem_of_getElem? free)
    by_cases own : p = q
    · subst own
      exact (notFull prefetch may).elim
    · rw [claimed_engine, if_neg own] at prefetch' before
      exact (notFull prefetch' (before rfl)).elim
  | @takes q i b idle taking work =>
    rw [took_engine] at prefetch' before ⊢
    by_cases own : p = q
    · subst own
      rw [if_pos rfl] at prefetch' before ⊢
      exact ⟨full prefetch' (before rfl), (settled f prefetch' (before rfl)).2⟩
    · rw [if_neg own] at prefetch' before ⊢
      exact ⟨full prefetch' (before rfl), (settled f prefetch' (before rfl)).2⟩

theorem EnginePath.claimSettled {s t : State} (h : EnginePath s t) {p : Port} (settled : ClaimSettled s p) : ClaimSettled t p := by
  induction h with
  | refl => exact settled
  | tail _ step ih => exact step.claimSettled ih

/-- The claims of the ports in turn. -/
def claimsOf (l : List Port) (s : State) : State := l.foldl (fun u p => prefetchPort p (Config.buffersPerRequest + 1) u) s

/-- The choices of the ports in turn. -/
def choicesOf (l : List Port) (s : State) : State := l.foldl (fun u p => chooseWork p u) s

theorem engineRound_eq (s : State) : engineRound s = choicesOf [.a, .b, .c, .d] (claimsOf [.a, .b, .c, .d] s) := rfl

theorem choicesOf_path (l : List Port) (s : State) : EnginePath s (choicesOf l s) := by
  induction l generalizing s with
  | nil => exact .refl
  | cons p l ih => exact (chooseWork_path p s).trans (ih _)

theorem claimsOf_settled (l : List Port) {s : State} {p : Port} (h : p ∉ l → ClaimSettled s p) : ClaimSettled (claimsOf l s) p := by
  induction l generalizing s with
  | nil => exact h List.not_mem_nil
  | cons q l ih =>
    refine ih fun notMem => ?_
    by_cases own : p = q
    · rw [own]
      exact prefetchPort_claimSettled q _ s fun f _ => Nat.le_add_right _ _
    · exact (prefetchPort_path q _ s).claimSettled (h fun mem => (List.mem_cons.mp mem).elim own notMem)

theorem mem_ports (p : Port) : p ∈ [Port.a, .b, .c, .d] := by cases p <;> decide

/-! ### The work of a port while another port takes work -/

/-- No request of the port has work that its engine could take. -/
def NoWork (s : State) (p : Port) : Prop :=
  (s.engines.get p).current = none → s.initLine.get p = false → ∀ r ∈ s.requests, r.port = p → ∀ b, ¬ Eligible s r b

section
variable {s : State} {p : Port} {i : Nat} {b : Buffer} {r : Request}

/-- The buffers of the other entries are the same. -/
theorem mem_took (takes : Takes s p i b r) {c : Buffer} (other : c.entry ≠ r.index) : some c ∈ (took p i b s).buffers ↔ some c ∈ s.buffers := by
  have stays : ∀ j, bufferAt (took p i b s) j = some c ↔ bufferAt s j = some c := fun j => by
    rw [took_buffer takes.buffer]
    split
    · next own =>
      rw [own, takes.buffer]
      refine iff_of_false (fun same => ?_) fun same => ?_
      · exact other (by rw [← Option.some.inj same, taken_entry, takes.entry])
      · exact other (by rw [← Option.some.inj same, takes.entry])
    · rfl
  rw [mem_buffers_iff, mem_buffers_iff]
  exact exists_congr stays

theorem mem_took_cases (takes : Takes s p i b r) {c : Buffer} (mem : some c ∈ (took p i b s).buffers) : c = b.taken ∨ some c ∈ s.buffers := by
  obtain ⟨j, at_j⟩ := mem_buffers_iff.mp mem
  rw [took_buffer takes.buffer] at at_j
  split at at_j
  · exact .inl (Option.some.inj at_j).symm
  · exact .inr (mem_buffers_iff.mpr ⟨j, at_j⟩)

theorem eligible_of_took (takes : Takes s p i b r) {q : Request} (other : q.index ≠ r.index) {c : Buffer}
    (h : Eligible (took p i b s) q c) : Eligible s q c := by
  have engine : ((took p i b s).engines.get q.port).givenUp = (s.engines.get q.port).givenUp ∧
      ((took p i b s).engines.get q.port).prefetch = (s.engines.get q.port).prefetch := by
    rw [took_engine]
    split
    · next own =>
      rw [own]
      exact ⟨rfl, rfl⟩
    · exact ⟨rfl, rfl⟩
  obtain ⟨mem, own, notGivenUp, work⟩ := h
  rw [engine.1] at notGivenUp
  rw [engine.2] at work
  refine ⟨(mem_took takes (by rw [own]; exact other)).mp mem, own, notGivenUp, work.imp_right ?_⟩
  rintro ⟨state, reads, full, none⟩
  exact ⟨state, reads, full, fun d hd own' => none d ((mem_took takes (by rw [own']; exact other)).mpr hd) own'⟩

theorem other_of_port (one : OneServed s) (takes : Takes s p i b r) {q : Request} (mem : q ∈ s.requests) (other : q.port ≠ p) :
    q.index ≠ r.index := fun same => other (by rw [entry_unique one.1 mem takes.request same, takes.port])

theorem took_noWork (one : OneServed s) (takes : Takes s p i b r) {q : Port} (other : q ≠ p) (h : NoWork s q) : NoWork (took p i b s) q := by
  intro idle taking u mem own c eligible
  rw [took_engine, if_neg other] at idle
  exact h idle taking u mem own c (eligible_of_took takes (other_of_port one takes mem (by rw [own]; exact other)) eligible)

/-! ### The engine that takes work -/

theorem taken_block (b : Buffer) : b.taken.block = b.block := by
  unfold Buffer.taken
  split <;> rfl

theorem taken_of_full {data : List Word} (h : b.state = .full data) : b.taken.state = .draining 0 data := by
  simp only [Buffer.taken, h]

/-- The buffer taken is the one to choose. -/
theorem took_chosenFor (one : OneServed s) (takes : Takes s p i b r) : ChosenFor (took p i b s) p r b.taken := by
  have fromHere : ∀ {q : Request}, q.index ≠ r.index → (∀ c, ¬ Eligible s q c) → ∀ c, ¬ Eligible (took p i b s) q c :=
    fun other none c eligible => none c (eligible_of_took takes other eligible)
  rcases takes.chosen with ⟨active, writes, ⟨data, loading⟩, least⟩ | ⟨⟨data, full⟩, least, rest⟩
  · have same : b.taken = b := taken_of_not_full fun _ full => by rw [loading] at full; cases full
    refine .inl ⟨active, writes, ⟨data, by rw [same, loading]⟩, fun c data' mem own state => ?_⟩
    rcases mem_took_cases takes mem with rfl | mem
    · exact Nat.le_refl _
    · rw [taken_block]
      exact least c data' mem own state
  · refine .inr ⟨⟨data, taken_of_full full⟩, fun c data' mem own state => ?_, rest.imp_right ?_⟩
    · rcases mem_took_cases takes mem with rfl | mem
      · exact Nat.le_refl _
      · rw [taken_block]
        exact least c data' mem own state
    · rintro ⟨draining, noneActive, older, younger, split, idle⟩
      refine ⟨draining, fun q mem own active => fromHere (fun same => ?_) (noneActive q mem own active), older, younger, split,
        fun q mem own isDraining => fromHere (fun same => ?_) (idle q mem own isDraining)⟩
      · rw [entry_unique one.1 mem takes.request same] at active
        exact notActive_of_draining draining active
      · have nodup := one.1.1
        rw [split, List.map_append, List.map_cons, List.nodup_append] at nodup
        exact nodup.2.2 q.index (List.mem_map_of_mem mem) r.index List.mem_cons_self same

theorem took_takesWork (one : OneServed s) (takes : Takes s p i b r) : TakesWork (took p i b s) p := by
  have engine := took_engine p p i b s
  rw [if_pos rfl] at engine
  refine ⟨by rw [engine], by rw [engine]; rfl, i, b.taken, r, by rw [engine], ?_, takes.request, ?_, takes.port, ?_, took_chosenFor one takes⟩
  · rw [took_buffer takes.buffer, if_pos rfl]
  · rw [taken_entry, takes.entry]
  · rw [engine]
    exact takes.notGivenUp

/-- An engine's work stands while another takes its own. -/
theorem took_keepsWork (one : OneServed s) (takes : Takes s p i b r) {q : Port} (other : q ≠ p) (h : TakesWork s q) :
    TakesWork (took p i b s) q := by
  obtain ⟨state, timer, j, c, u, current, at_j, mem, entry, own, notGivenUp, chosen⟩ := h
  have apart : ∀ {x : Request}, x ∈ s.requests → x.port = q → x.index ≠ r.index := fun mem own =>
    other_of_port one takes mem (by rw [own]; exact other)
  have inPool : ∀ {d : Buffer}, some d ∈ (took p i b s).buffers → d.entry = u.index → some d ∈ s.buffers := fun mem' own' =>
    (mem_took takes (by rw [own']; exact apart mem own)).mp mem'
  have none : ∀ {x : Request}, x ∈ s.requests → x.port = q → (∀ d, ¬ Eligible s x d) → ∀ d, ¬ Eligible (took p i b s) x d :=
    fun mem own none d eligible => none d (eligible_of_took takes (apart mem own) eligible)
  have engine := took_engine p q i b s
  rw [if_neg other] at engine
  refine ⟨by rw [engine]; exact state, by rw [engine]; exact timer, j, c, u, by rw [engine]; exact current, ?_, mem, entry, own,
    by rw [engine]; exact notGivenUp, ?_⟩
  · rw [took_buffer takes.buffer, if_neg fun same => apart mem own ?_]
    · exact at_j
    · rw [same, takes.buffer] at at_j
      cases at_j
      rw [entry, takes.entry]
  · rcases chosen with ⟨active, writes, loading, least⟩ | ⟨draining, least, rest⟩
    · exact .inl ⟨active, writes, loading, fun d data mem' own' state' => least d data (inPool mem' own') own' state'⟩
    · refine .inr ⟨draining, fun d data mem' own' state' => least d data (inPool mem' own') own' state', rest.imp_right ?_⟩
      rintro ⟨isDraining, noneActive, older, younger, split, idle⟩
      refine ⟨isDraining, fun x mem' own' active => none mem' own' (noneActive x mem' own' active), older, younger, split,
        fun x mem' own' draining' => none ?_ own' (idle x mem' own' draining')⟩
      rw [split]
      exact List.mem_append_left _ mem'

end

/-! ### Every port has chosen -/

theorem chooseWork_oneServed {s : State} (one : OneServed s) (p : Port) : OneServed (chooseWork p s) :=
  oneServed_of_frame one (chooseWork_enginesOnly p s).requests (chooseWork_enginesOnly p s).drive.sequencer

theorem chooseWork_noWork {s : State} (one : OneServed s) (p : Port) : NoWork (chooseWork p s) p := by
  rcases chooseWork_cases p s with ⟨same, none⟩ | ⟨i, b, _, _, _, result⟩
  · rw [same]
    exact fun idle taking r mem own c => engineWork_none one (none idle taking) mem own c
  · rw [result]
    intro idle
    rw [took_engine, if_pos rfl] at idle
    cases idle

theorem chooseWork_keepsNoWork {s : State} (one : OneServed s) {p q : Port} (other : q ≠ p) (h : NoWork s q) : NoWork (chooseWork p s) q := by
  rcases chooseWork_cases p s with ⟨same, _⟩ | ⟨i, b, _, _, work, result⟩
  · rw [same]
    exact h
  · obtain ⟨r, takes⟩ := engineWork_takes one work
    rw [result]
    exact took_noWork one takes other h

theorem choicesOf_noWork (l : List Port) {s : State} (one : OneServed s) {p : Port} (h : p ∉ l → NoWork s p) : NoWork (choicesOf l s) p := by
  induction l generalizing s with
  | nil => exact h List.not_mem_nil
  | cons q l ih =>
    refine ih (chooseWork_oneServed one q) fun notMem => ?_
    by_cases own : p = q
    · rw [own]
      exact chooseWork_noWork one q
    · exact chooseWork_keepsNoWork one own (h fun mem => (List.mem_cons.mp mem).elim own notMem)

/-- The engine of the port requests its bus for work it has taken, or is the engine `e`. -/
def Chose (t : State) (p : Port) (e : Engine) : Prop := TakesWork t p ∨ t.engines.get p = e

theorem chooseWork_chose {s : State} (one : OneServed s) (p : Port) : Chose (chooseWork p s) p (s.engines.get p) := by
  rcases chooseWork_cases p s with ⟨same, _⟩ | ⟨i, b, _, _, work, result⟩
  · rw [same]
    exact .inr rfl
  · obtain ⟨r, takes⟩ := engineWork_takes one work
    rw [result]
    exact .inl (took_takesWork one takes)

theorem chooseWork_keepsChose {s : State} (one : OneServed s) {p q : Port} (other : q ≠ p) {e : Engine} (h : Chose s q e) :
    Chose (chooseWork p s) q e := by
  rcases chooseWork_cases p s with ⟨same, _⟩ | ⟨i, b, _, _, work, result⟩
  · rw [same]
    exact h
  · obtain ⟨r, takes⟩ := engineWork_takes one work
    rw [result]
    refine h.imp (took_keepsWork one takes other) fun same => ?_
    rw [took_engine, if_neg other]
    exact same

theorem choicesOf_keepsChose (l : List Port) {s : State} (one : OneServed s) {p : Port} (notMem : p ∉ l) {e : Engine} (h : Chose s p e) :
    Chose (choicesOf l s) p e := by
  induction l generalizing s with
  | nil => exact h
  | cons q l ih =>
    obtain ⟨other, notMem'⟩ := not_or.mp fun k => notMem (List.mem_cons.mpr k)
    exact ih (chooseWork_oneServed one q) notMem' (chooseWork_keepsChose one other h)

theorem choicesOf_chose (l : List Port) (nodup : l.Nodup) {s : State} (one : OneServed s) {p : Port} (mem : p ∈ l) :
    Chose (choicesOf l s) p (s.engines.get p) := by
  induction l generalizing s with
  | nil => cases mem
  | cons q l ih =>
    obtain ⟨notMem, nodup'⟩ := List.nodup_cons.mp nodup
    by_cases own : p = q
    · subst own
      exact choicesOf_keepsChose l (chooseWork_oneServed one p) notMem (chooseWork_chose one p)
    · have same : (chooseWork q s).engines.get p = s.engines.get p := by
        rcases chooseWork_cases q s with ⟨same, _⟩ | ⟨i, b, _, _, _, result⟩
        · rw [same]
        · rw [result, took_engine, if_neg own]
      have later := ih nodup' (chooseWork_oneServed one q) ((List.mem_cons.mp mem).resolve_left own)
      rwa [same] at later

/-! ### The end of an event -/

theorem claimsOf_oneServed (l : List Port) {s : State} (one : OneServed s) : OneServed (claimsOf l s) := by
  induction l generalizing s with
  | nil => exact one
  | cons p l ih =>
    have only := prefetchPort_enginesOnly p (Config.buffersPerRequest + 1) s
    exact ih (oneServed_of_frame one only.requests only.drive.sequencer)

theorem engineRound_settled {s : State} (one : OneServed s) : EnginesSettled (engineRound s) := by
  rw [engineRound_eq]
  have one' := claimsOf_oneServed [.a, .b, .c, .d] one
  refine ⟨fun r mem idle taking b => ?_, fun p f r prefetch found active notGivenUp within few => ?_⟩
  · exact choicesOf_noWork [.a, .b, .c, .d] one' (fun notMem => absurd (mem_ports r.port) notMem) idle taking r mem rfl b
  · exact (choicesOf_path _ _).claimSettled (claimsOf_settled [.a, .b, .c, .d] fun notMem => absurd (mem_ports p) notMem) f prefetch
      (mayClaim_iff.mpr ⟨r, found, active, notGivenUp, within, few⟩)

/-- After an event no engine stands beside work it could do, and every claim that waits waits for want of a FREE buffer. -/
theorem settle_enginesSettled {s : State} (one : OneServed s) : EnginesSettled (settle s) :=
  engineRound_settled (runScheduler_oneServed _ one)

/-- The claims leave of an engine its state, its work and its timer. -/
theorem prefetchPort_engine (q : Port) (n : Nat) (s : State) (p : Port) :
    ((prefetchPort q n s).engines.get p).state = (s.engines.get p).state ∧
      ((prefetchPort q n s).engines.get p).current = (s.engines.get p).current := by
  induction n generalizing s with
  | zero => exact ⟨rfl, rfl⟩
  | succ n ih =>
    rcases prefetchPort_cases q n s with ⟨same, _⟩ | ⟨f, _, _, _, result⟩ | ⟨f, i, _, _, _, result⟩
    · rw [same]
      exact ⟨rfl, rfl⟩
    · rw [result, waitingFor_engine]
      split
      · next own => rw [own]; exact ⟨rfl, rfl⟩
      · exact ⟨rfl, rfl⟩
    · have claim : ((claimed q f i s).engines.get p).state = (s.engines.get p).state ∧
          ((claimed q f i s).engines.get p).current = (s.engines.get p).current := by
        rw [claimed_engine]
        split
        · next own => rw [own]; exact ⟨rfl, rfl⟩
        · exact ⟨rfl, rfl⟩
      rw [result]
      exact ⟨(ih _).1.trans claim.1, (ih _).2.trans claim.2⟩

theorem claimsOf_engine (l : List Port) (s : State) (p : Port) :
    ((claimsOf l s).engines.get p).state = (s.engines.get p).state ∧ ((claimsOf l s).engines.get p).current = (s.engines.get p).current := by
  induction l generalizing s with
  | nil => exact ⟨rfl, rfl⟩
  | cons q l ih =>
    obtain ⟨state, current⟩ := prefetchPort_engine q (Config.buffersPerRequest + 1) s p
    exact ⟨(ih _).1.trans state, (ih _).2.trans current⟩

/-- After the round the engine of a port has taken work, or has the state and the work it had. -/
theorem engineRound_chose {s : State} (one : OneServed s) (p : Port) : TakesWork (engineRound s) p ∨
    (((engineRound s).engines.get p).state = (s.engines.get p).state ∧ ((engineRound s).engines.get p).current = (s.engines.get p).current) := by
  rw [engineRound_eq]
  refine (choicesOf_chose [.a, .b, .c, .d] (by decide) (claimsOf_oneServed [.a, .b, .c, .d] one) (mem_ports p)).imp_right fun same => ?_
  rw [same]
  exact claimsOf_engine _ s p

/-- An engine IDLE without a buffer. -/
def AtRest (e : Engine) : Prop := e.state = .idle ∧ e.current = none

/-- An engine at rest when the scheduler has run has chosen at the end of the event. -/
theorem settle_hasChosen {s : State} (one : OneServed s) {p : Port}
    (rest : AtRest ((runScheduler (s.requests.length + 1) s).engines.get p)) : HasChosen (settle s) p := by
  refine ⟨settle_enginesSettled one, ?_⟩
  rw [settle_eq]
  refine (engineRound_chose (runScheduler_oneServed _ one) p).imp_right fun ⟨state, current⟩ => ⟨state.trans rest.1, current.trans rest.2⟩

end Sys2Proof.Machine
end

section
/-! A block finished good that is not the last: the sequencer goes on, and the engines take up their work (R65, R110, R128, R130). -/

namespace Sys2Proof.Machine

open Sys2Proof.Safety

/-! ### The next block -/

theorem wentOn_serving (q : Sequencer) (v : Service) : serving (wentOn q v).state = true := by
  unfold wentOn
  split <;> rfl

theorem wentOn_key (q : Sequencer) (v : Service) : (wentOn q v).service.map Service.key = some v.key := by
  unfold wentOn
  split <;> rfl

theorem oneServed_of_update {s : State} (h : OneServed s) (i : Nat) {f : Request → Request} (index : ∀ r, (f r).index = r.index)
    (state : ∀ r, (f r).state = r.state) : OneServed (updateRequest i f s) := by
  refine oneServed_of_progress h (f := fun q => if q.index = i then f q else q) (fun q => ?_) (fun q => ?_) rfl rfl
  · split
    · exact index q
    · rfl
  · split
    · exact state q
    · rfl

/-- The state at the end of a block that is not the last, before the engines take up their work. -/
def goneOn (v : Service) (retries : Nat) (s : State) : State :=
  (updateRequest v.entry (withBlocks 1 retries) s).withSequencer (wentOn s.sequencer v)

theorem goneOn_oneServed {s : State} {v : Service} (service : s.sequencer.service = some v) (state : s.sequencer.state = .transferring)
    (retries : Nat) (one : OneServed s) : OneServed (goneOn v retries s) := by
  have counted := oneServed_of_update one v.entry (f := withBlocks 1 retries) (fun _ => rfl) fun _ => rfl
  refine oneServed_of_same counted counted.1 rfl ?_ ?_
  · exact (wentOn_key s.sequencer v).trans (congrArg (Option.map Service.key) service).symm
  · exact (wentOn_serving s.sequencer v).trans (congrArg serving state).symm

theorem settle_path_of_quiet {s : State} (quiet : Quiet s) : EnginePath s (settle s) := by
  rw [settle_of_quiet quiet]
  exact engineRound_path s

/-- How a state follows `s` in which a block has been finished that is not the last. -/
structure GoesOn (s t : State) (v : Service) (retries : Nat) : Prop where
  sequencer : t.sequencer = wentOn s.sequencer v
  requests : t.requests = s.requests.map fun q => if q.index = v.entry then withBlocks 1 retries q else q
  drive : t.drive = s.drive
  buffers : ∀ {i b}, bufferAt s i = some b → bufferAt t i = some b ∨ bufferAt t i = some b.taken
  settled : OneServed s → EnginesSettled t

theorem blockFinished_goesOn {s : State} {v : Service} {r : Request} (service : s.sequencer.service = some v)
    (found : findRequest s v.entry = some r) (state : s.sequencer.state = .transferring) (notLast : v.current ≠ r.last)
    (notAsked : v.stopAsked = false) (retries : Nat) : GoesOn s (blockFinished retries s) v retries := by
  have result : blockFinished retries s = settle (goneOn v retries s) := by
    rw [blockFinished_eq service found, if_neg notLast, if_neg (by rw [notAsked]; exact Bool.false_ne_true)]
    rfl
  have quiet : Quiet (goneOn v retries s) := quiet_of_serving (wentOn_serving s.sequencer v)
  have only := settle_quiet quiet
  have path := settle_path_of_quiet quiet
  rw [result]
  exact {
    sequencer := only.drive.sequencer
    requests := only.requests
    drive := only.drive.drive
    buffers := fun used => path.used used
    settled := fun one => settle_enginesSettled (goneOn_oneServed service state retries one) }

/-! ### The buffer of a READ -/

theorem fillBuffer_of_buffer {s : State} {v : Service} (service : s.sequencer.service = some v) {i : Nat} {b : Buffer}
    (buffer : v.buffer = some i) (at_i : bufferAt s i = some b) (field : List Byte) : fillBuffer v field s =
      (setBuffer i (some { b with state := .full (dataFieldWords field) }) s).withSequencer
        { s.sequencer with service := some { v with buffer := none } } := by
  have service' : (setBuffer i (some { b with state := .full (dataFieldWords field) }) s).sequencer.service = some v := service
  simp only [fillBuffer, buffer, at_i]
  rw [modifyService_of_service service']
  rfl

theorem filled_oneServed {s : State} {v : Service} (service : s.sequencer.service = some v) (one : OneServed s) (i : Nat)
    (x : Option Buffer) (buffer : Option Nat) :
    OneServed ((setBuffer i x s).withSequencer { s.sequencer with service := some { v with buffer := buffer } }) :=
  oneServed_of_same one one.1 rfl (congrArg (Option.map Service.key) service).symm rfl

/-- Settles O41, by the operation: each reaches the same end of a block, after its own work at the end of the field. -/
theorem blockFinishedGoesOn : Obligations.BlockFinishedGoesOn := by
  intro wp field s v r serves notLast notAsked
  obtain ⟨_, entry⟩ := findRequest_some serves.entry
  have service : (senseWriteProtect wp s).sequencer.service = some v := serves.service
  have work := fun {t} => workOnly_of_next (t := t) (exec_dataFieldEnd_workOnly wp field s)
  rw [entry]
  refine ⟨fun a i b operation notOrphan buffer at_i _ good => ?_, fun operation good => ?_, fun a operation => ?_⟩
  · have next := (exec_dataFieldEnd_of_good serves good wp).1 a operation
    have at_i' : bufferAt (senseWriteProtect wp s) i = some b := at_i
    rw [if_neg (by rw [notOrphan]; exact Bool.false_ne_true), fillBuffer_of_buffer service buffer at_i'] at next
    have goes := blockFinished_goesOn (v := { v with buffer := none })
      (s := (setBuffer i (some { b with state := .full (dataFieldWords field) }) (senseWriteProtect wp s)).withSequencer
        { (senseWriteProtect wp s).sequencer with service := some { v with buffer := none } })
      rfl serves.entry serves.state notLast notAsked v.retriesSpent
    refine ⟨_, next, work next, ?_, goes.requests, ?_, fun one => goes.settled (filled_oneServed service ?_ i _ none)⟩
    · rw [goes.sequencer]
      unfold wentOn
      rfl
    · exact goes.buffers ((bufferAt_setBuffer (inside_of_at at_i') _ i).trans (if_pos rfl))
    · exact oneServed_of_frame one rfl rfl
  · have next := (exec_dataFieldEnd_of_good serves good wp).2 operation
    have goes := blockFinished_goesOn service serves.entry serves.state notLast notAsked v.retriesSpent
    exact ⟨_, next, work next, goes.sequencer, goes.requests⟩
  · have next := exec_dataFieldEnd_of_write serves operation wp field
    have goes := blockFinished_goesOn (s := recorded wp v s) serves.service serves.entry serves.state notLast notAsked 0
    exact ⟨_, next, work next, goes.sequencer, goes.requests, goes.drive, fun one => goes.settled (oneServed_of_frame one rfl rfl)⟩

end Sys2Proof.Machine
end

section
/-! What the freeing of buffers and the scheduler's runs leave of the buffers and the engines: buffers are only freed, and an engine at rest
stays at rest (R126, R136, R137). -/

namespace Sys2Proof.Machine

open Sys2Proof.Safety

/-! ### Buffers freed and entries forgotten -/

theorem freeBuffers_buffer (test : Buffer → Bool) (s : State) (j : Nat) :
    bufferAt (freeBuffers test s) j = (bufferAt s j).filter fun x => !test x := by
  show (s.buffers.map _).getD j none = _
  rw [bufferAt, List.getD_eq_getElem?_getD, List.getD_eq_getElem?_getD, List.getElem?_map]
  rcases s.buffers[j]? with _ | _ | x
  · rfl
  · rfl
  · cases tested : test x <;> simp [tested, Option.filter]

theorem freeBuffers_at_rest {s : State} {p : Port} (idle : (s.engines.get p).current = none) (test : Buffer → Bool) :
    (freeBuffers test s).engines.get p = s.engines.get p := by
  show (s.engines.map _).get p = _
  rw [PortMap.get_map, idle]

theorem loseBuffer_givenUp (e : Engine) : e.loseBuffer.givenUp = e.givenUp := by
  unfold Engine.loseBuffer
  split <;> rfl

theorem freeBuffers_givenUp (test : Buffer → Bool) (s : State) (p : Port) :
    ((freeBuffers test s).engines.get p).givenUp = (s.engines.get p).givenUp := by
  refine (congrArg Engine.givenUp (PortMap.get_map _ s.engines p)).trans ?_
  split
  · split
    · exact loseBuffer_givenUp _
    · rfl
  · rfl

theorem forgetEntry_engine (i : Nat) (s : State) (p : Port) : (forgetEntry i s).engines.get p = (s.engines.get p).forget i :=
  PortMap.get_map _ _ _

/-- An engine that forgets an entry keeps its state and its work. -/
theorem forget_work (i : Nat) (e : Engine) : (e.forget i).state = e.state ∧ (e.forget i).current = e.current := by
  unfold Engine.forget
  dsimp only
  repeat' split
  all_goals exact ⟨rfl, rfl⟩

theorem forget_givenUp {i : Nat} {e : Engine} (h : e.givenUp = none ∨ e.givenUp = some i) : (e.forget i).givenUp = none := by
  have kept : ∀ e1 : Engine, e1.givenUp = e.givenUp → (if e1.givenUp = some i then { e1 with givenUp := none } else e1).givenUp = none :=
    fun e1 same => by
      split
      · rfl
      · next other => exact (same.trans (h.resolve_right fun k => other (same.trans k)))
  refine kept _ ?_
  split
  · split <;> rfl
  · rfl

/-! ### Nothing but freed -/

/-- Buffers are at most freed, an engine at rest stays so, and none gives up a request. -/
structure Eased (s t : State) : Prop where
  buffers : ∀ j, bufferAt t j = bufferAt s j ∨ bufferAt t j = none
  rest : ∀ p, AtRest (s.engines.get p) → AtRest (t.engines.get p)
  givenUp : ∀ p, (s.engines.get p).givenUp = none → (t.engines.get p).givenUp = none

theorem eased_of_same {s t : State} (buffers : t.buffers = s.buffers) (engines : t.engines = s.engines) : Eased s t := by
  refine ⟨fun j => .inl (bufferAt_congr buffers j), fun p h => ?_, fun p h => ?_⟩ <;>
  · rw [engines]
    exact h

theorem eased_refl (s : State) : Eased s s := eased_of_same rfl rfl

theorem eased_trans {s t u : State} (h : Eased s t) (k : Eased t u) : Eased s u := by
  refine ⟨fun j => ?_, fun p rest => k.rest p (h.rest p rest), fun p none => k.givenUp p (h.givenUp p none)⟩
  rcases k.buffers j with same | free
  · rw [same]
    exact h.buffers j
  · exact .inr free

theorem freeBuffers_eased (test : Buffer → Bool) (s : State) : Eased s (freeBuffers test s) := by
  refine ⟨fun j => ?_, fun p rest => ?_, fun p h => (freeBuffers_givenUp test s p).trans h⟩
  · rw [freeBuffers_buffer]
    cases bufferAt s j with
    | none => exact .inl rfl
    | some x => cases tested : test x <;> simp [tested, Option.filter]
  · rw [freeBuffers_at_rest rest.2]
    exact rest

theorem forgetEntry_eased (i : Nat) (s : State) : Eased s (forgetEntry i s) := by
  refine ⟨fun j => .inl rfl, fun p rest => ?_, fun p h => ?_⟩ <;> rw [forgetEntry_engine]
  · obtain ⟨state, current⟩ := forget_work i (s.engines.get p)
    exact ⟨state.trans rest.1, current.trans rest.2⟩
  · exact forget_givenUp (.inl h)

theorem enterHeld_eased (i : Nat) (status : Status) (failing : Option Nat) (s : State) : Eased s (enterHeld i status failing s) := by
  unfold enterHeld
  split
  · exact eased_refl s
  · next r _ =>
    let marked := leaveMedium i (updateRequest i (fun q => { q with state := .held status failing, dependencies := [] }) s)
    have forgotten : Eased s (forgetEntry i (freeEntryBuffers i marked)) :=
      eased_trans (eased_trans (eased_of_same (t := marked) rfl rfl) (freeBuffers_eased _ marked)) (forgetEntry_eased i _)
    exact eased_trans forgotten (eased_of_same rfl rfl)

theorem freeRequest_eased (i : Nat) (s : State) : Eased s (freeRequest i s) :=
  eased_trans (eased_trans (eased_of_same (t := leaveMedium i (removeRequest i s)) rfl rfl) (freeBuffers_eased _ _)) (forgetEntry_eased i _)

theorem makeWriteReport_eased (r : Request) (v : Service) (s : State) : Eased s (makeWriteReport r v s) := by
  unfold makeWriteReport
  split
  · exact eased_refl s
  · split
    · exact eased_refl s
    · exact eased_of_same rfl rfl

theorem endActive_eased (r : Request) (v : Service) (status : Status) (failing : Option Nat) (s : State) :
    Eased s (endActive r v status failing s) := by
  rcases endActive_cases r v status failing s with ⟨_, _, result⟩ | ⟨_, result⟩ <;> rw [result]
  · exact eased_of_same rfl rfl
  · exact eased_trans (enterHeld_eased _ _ _ s) (makeWriteReport_eased r v _)

theorem applyEnd_eased (r : Request) (v : Service) (e : MediumEnd) (s : State) : Eased s (applyEnd r v e s) := by
  unfold applyEnd
  split
  · exact freeRequest_eased _ s
  · exact eased_trans (enterHeld_eased _ _ _ s) (makeWriteReport_eased r v _)
  · split
    · exact endActive_eased _ _ _ _ s
    · exact endActive_eased _ _ _ _ s
    · exact eased_refl s
  · exact eased_refl s

theorem closeService_eased (v : Service) (next : SequencerState) (s : State) : Eased s (closeService v next s) :=
  eased_trans (freeBuffers_eased _ s) (eased_of_same rfl rfl)

theorem endOnMedium_eased (e : MediumEnd) (next : SequencerState) (s : State) : Eased s (endOnMedium e next s) := by
  unfold endOnMedium
  split
  · exact eased_refl s
  · next v _ =>
    have raised : Eased s (raiseRetries v.entry (e.retries v) (closeService v next s)) :=
      eased_trans (closeService_eased v next s) (eased_of_same rfl rfl)
    dsimp only
    split
    · exact raised
    · exact eased_trans raised (applyEnd_eased _ _ _ _)

/-! ### The scheduler's runs -/

theorem handedOver_eased (r : Request) (s : State) : Eased s (handedOver r s) := by
  have engine : ∀ p, ((handedOver r s).engines.get p).state = (s.engines.get p).state ∧
      ((handedOver r s).engines.get p).current = (s.engines.get p).current ∧
      ((handedOver r s).engines.get p).givenUp = (s.engines.get p).givenUp := fun p => by
    show ((startPrefetch r _).engines.get p).state = _ ∧ ((startPrefetch r _).engines.get p).current = _ ∧
      ((startPrefetch r _).engines.get p).givenUp = _
    unfold startPrefetch
    split
    · by_cases own : p = r.port
      · subst own
        simp only [State.modifyEngine, State.withEngines_fields, PortMap.get_set_same]
        exact ⟨rfl, rfl, rfl⟩
      · simp only [State.modifyEngine, State.withEngines_fields, PortMap.get_set_ne _ _ _ _ own]
        exact ⟨rfl, rfl, rfl⟩
    · exact ⟨rfl, rfl, rfl⟩
  refine ⟨fun j => .inl (bufferAt_congr (handedOver_frame r s).2.2.2.1 j), fun p rest => ?_, fun p h => (engine p).2.2.trans h⟩
  exact ⟨(engine p).1.trans rest.1, (engine p).2.1.trans rest.2⟩

theorem handOver_eased (r : Request) (s : State) : Eased s (handOver r s) := by
  by_cases isProtected : protectedFormat r s
  · rw [handOver_of_protected isProtected]
    have found : Eased s (sampled r s) := eased_trans (handedOver_eased r s) (eased_of_same rfl rfl)
    exact eased_trans found (endOnMedium_eased _ _ (sampled r s))
  · rw [handOver_of_starts isProtected]
    exact eased_trans (handedOver_eased r s) (eased_of_same rfl rfl)

theorem runScheduler_eased (n : Nat) (s : State) : Eased s (runScheduler n s) := by
  induction n generalizing s with
  | zero => exact eased_refl s
  | succ n ih =>
    unfold runScheduler
    split
    · split
      · exact eased_refl s
      · exact eased_trans (handOver_eased _ s) (ih _)
    · exact eased_refl s

/-! ### The end of an event -/

theorem settle_path (s : State) : EnginePath (runScheduler (s.requests.length + 1) s) (settle s) := engineRound_path _

theorem settle_hasChosen_of_rest {s : State} (one : OneServed s) {p : Port} (rest : AtRest (s.engines.get p)) : HasChosen (settle s) p :=
  settle_hasChosen one ((runScheduler_eased _ s).rest p rest)

theorem settle_givenUp {s : State} {p : Port} (h : (s.engines.get p).givenUp = none) : ((settle s).engines.get p).givenUp = none :=
  ((settle_path s).kept p).givenUp.trans ((runScheduler_eased _ s).givenUp p h)

theorem settle_freeOrClaimed {s : State} {j : Nat} (free : bufferAt s j = none) : FreeOrClaimed (settle s) j := by
  refine (settle_path s).freeOrClaimed (.inl ?_)
  rcases (runScheduler_eased (s.requests.length + 1) s).buffers j with same | free'
  · exact same.trans free
  · exact free'

/-! ### A request off the medium keeps no buffer -/

/-- No buffer is bound to the entry. -/
def NoneBound (i : Nat) (s : State) : Prop := ∀ x, some x ∈ s.buffers → x.entry ≠ i

theorem eased_noneBound {s t : State} (h : Eased s t) {i : Nat} (none : NoneBound i s) : NoneBound i t := fun x mem => by
  obtain ⟨j, at_j⟩ := mem_buffers_iff.mp mem
  rcases h.buffers j with same | free
  · exact none x (mem_buffers_iff.mpr ⟨j, same.symm.trans at_j⟩)
  · rw [free] at at_j
    cases at_j

theorem enterHeld_noneBound {s : State} {i : Nat} {r : Request} (found : findRequest s i = some r) (status : Status) (failing : Option Nat) :
    NoneBound i (enterHeld i status failing s) := fun x mem own => by
  simp only [enterHeld, found] at mem
  obtain ⟨j, at_j⟩ := mem_buffers_iff.mp mem
  have freed : bufferAt (freeEntryBuffers i (leaveMedium i
      (updateRequest i (fun q => { q with state := .held status failing, dependencies := [] }) s))) j = some x := at_j
  rw [freeEntryBuffers, freeBuffers_buffer] at freed
  have kept := (Option.filter_eq_some_iff.mp freed).2
  rw [own] at kept
  simp at kept

theorem enterHeld_givenUp {s : State} {i : Nat} {r : Request} (found : findRequest s i = some r) (status : Status) (failing : Option Nat)
    {p : Port} (h : (s.engines.get p).givenUp = some i) : ((enterHeld i status failing s).engines.get p).givenUp = none := by
  simp only [enterHeld, found]
  show ((forgetEntry i _).engines.get p).givenUp = none
  rw [forgetEntry_engine]
  exact forget_givenUp (.inr ((freeBuffers_givenUp _ _ p).trans h))

theorem EngineStep.noneBound {s t : State} (h : EngineStep s t) {i : Nat} (inactive : ∀ r, findRequest s i = some r → r.isActive ≠ true)
    (none : NoneBound i s) : NoneBound i t := fun x mem => by
  obtain ⟨j, at_j⟩ := mem_buffers_iff.mp mem
  cases h with
  | waits prefetch may full => exact none x mem
  | @claims p f k prefetch may free =>
    rw [claimed_buffer free] at at_j
    split at at_j
    · rw [← Option.some.inj at_j]
      intro own
      obtain ⟨r, found, active, _⟩ := mayClaim_iff.mp may
      exact inactive r (own ▸ found) active
    · exact none x (mem_buffers_iff.mpr ⟨j, at_j⟩)
  | @takes p k b idle taking work =>
    have bound := engineWork_at work
    rw [took_buffer bound] at at_j
    split at at_j
    · rw [← Option.some.inj at_j, taken_entry]
      exact none b (mem_buffers_iff.mpr ⟨k, bound⟩)
    · exact none x (mem_buffers_iff.mpr ⟨j, at_j⟩)

theorem EnginePath.requests {s t : State} (h : EnginePath s t) : t.requests = s.requests := by
  induction h with
  | refl => rfl
  | tail _ step ih => exact step.only.requests.trans ih

theorem EnginePath.noneBound {s t : State} (h : EnginePath s t) {i : Nat} (inactive : ∀ r, findRequest s i = some r → r.isActive ≠ true)
    (none : NoneBound i s) : NoneBound i t := by
  induction h with
  | refl => exact none
  | tail path step ih => exact step.noneBound (fun r found => inactive r ((findRequest_congr (EnginePath.requests path) i).symm.trans found)) ih

/-- A request HELD that has no buffer has none at the end of the event. -/
theorem settle_noneBound {s : State} (one : OneServed s) {r : Request} {status : Status} {failing : Option Nat} {n : Nat}
    (held : HeldWith (settle s) r status failing n) (none : NoneBound r.index s) : NoneBound r.index (settle s) := by
  obtain ⟨⟨q, hq, index, _, _, state, _⟩, _⟩ := held
  refine (settle_path s).noneBound (fun u found active => ?_) (eased_noneBound (runScheduler_eased _ s) none)
  obtain ⟨hu, index'⟩ := findRequest_some found
  rw [← (settle_path s).requests] at hu
  rw [entry_unique (settle_oneServed one).1 hu hq (index'.trans index.symm), Request.isActive, state] at active
  cases active

end Sys2Proof.Machine
end

section
/-! The end of a burst (R69, R129, R131, R133, R135, R136). -/

namespace Sys2Proof.Machine

open Sys2Proof.Safety

/-! ### The events on the buffer that an engine moves -/

section
variable {p : Port} {s : State} {i : Nat} {b : Buffer}

theorem exec_burstEnd_of_buffer (words : Vector Word 16) (moving : (s.engines.get p).state = .moving)
    (running : (s.engines.get p).withdrawn = false) (current : (s.engines.get p).current = some i) (at_i : bufferAt s i = some b) :
    (∀ moved data, b.state = .draining moved data →
      exec (.burstEnd p words) s = .next (settle (drainBurstEnd p i b moved data s))) ∧
    ∀ data, b.state = .loading data → exec (.burstEnd p words) s = .next (settle (loadBurstEnd p i b data words.toList s)) := by
  refine ⟨fun moved data state => ?_, fun data state => ?_⟩ <;>
    simp only [exec, execBurstEnd, moving, running, current, at_i, state, if_true, Bool.false_eq_true, if_false]

theorem exec_burstEnd_of_withdrawn (words : Vector Word 16) (moving : (s.engines.get p).state = .moving)
    (withdrawn : (s.engines.get p).withdrawn = true) :
    exec (.burstEnd p words) s = .next (settle (s.modifyEngine p Engine.release)) := by
  simp only [exec, execBurstEnd, moving, withdrawn, if_true]

theorem modifyEngine_own (p : Port) (f : Engine → Engine) (s : State) : (s.modifyEngine p f).engines.get p = f (s.engines.get p) :=
  PortMap.get_set_same _ _ _

theorem release_at_rest (p : Port) (s : State) : AtRest ((s.modifyEngine p Engine.release).engines.get p) := by
  rw [modifyEngine_own]
  exact ⟨rfl, rfl⟩

/-- The bus requested again for a buffer that is not FULL stands at the end of the event. -/
theorem settle_requestBus (quiet : Quiet s) {x : Buffer} (current : (s.engines.get p).current = some i) (inside : i < s.buffers.length)
    (notFull : ∀ data, x.state ≠ .full data) :
    let t := settle (requestBus p (setBuffer i (some x) s))
    t.requests = s.requests ∧ bufferAt t i = some x ∧ (t.engines.get p).state = .requesting ∧
      (t.engines.get p).current = some i ∧ (t.engines.get p).timer = some s.settings.hostBusTimeout := by
  have quiet' : Quiet (requestBus p (setBuffer i (some x) s)) := quiet
  have engine : (requestBus p (setBuffer i (some x) s)).engines.get p =
      { s.engines.get p with state := .requesting, timer := some s.settings.hostBusTimeout } := modifyEngine_own _ _ _
  have path := settle_path_of_quiet quiet'
  have working := (path.kept p).working i (by rw [engine]; exact current)
  rw [engine] at working
  refine ⟨(settle_quiet quiet').requests, path.stays ?_ notFull, working.2.1, working.1, working.2.2⟩
  exact (bufferAt_setBuffer inside _ i).trans (if_pos rfl)

/-! ### The end of a burst -/

/-- The state in which the last burst of a load has made its buffer LOADED and released the engine. -/
def loaded (p : Port) (i : Nat) (b : Buffer) (data : List Word) (s : State) : State :=
  setBuffer i (some { b with state := .loaded data })
    ((s.modifyEngine p fun e => { e with burstRegister := data.drop 240 }).modifyEngine p Engine.release)

theorem loadBurstEnd_last {data words : List Word} (full : data.length = 240) (burst : words.length = 16) :
    loadBurstEnd p i b data words s = loaded p i b (data ++ words) s := by
  rw [loadBurstEnd, if_pos (by rw [List.length_append, full, burst]; exact Nat.le_refl _), loaded, ← full, List.drop_left]

/-- The state in which the last burst of a delivery has freed its buffer and released the engine. -/
def delivered (p : Port) (i : Nat) (s : State) : State := setBuffer i none (s.modifyEngine p Engine.release)

/-- The blocks done of an entry raised by one. -/
def countDelivered (r : Request) : Request := { r with blocksDone := r.blocksDone + 1 }

theorem drainBurstEnd_last (data : List Word) : drainBurstEnd p i b 240 data s = deliveryReport b.entry (delivered p i s) := rfl

theorem deliveryReport_of_active {entry a : Nat} {r : Request} {stop : Option Status} (found : findRequest s entry = some r)
    (operation : r.operation = .read a) (state : r.state = .active stop) :
    deliveryReport entry s = updateRequest entry countDelivered s := by
  simp only [deliveryReport, found, operation, state]
  rfl

theorem deliveryReport_of_draining {entry a : Nat} {r : Request} {status : Status} {failing : Option Nat}
    (found : findRequest s entry = some r) (operation : r.operation = .read a) (state : r.state = .draining status failing) :
    deliveryReport entry s = if r.blocksDone + 1 = r.mediumCount then enterHeld entry status failing (updateRequest entry countDelivered s)
      else updateRequest entry countDelivered s := by
  simp only [deliveryReport, found, operation, state]
  rfl

theorem countDelivered_quiet (quiet : Quiet s) (entry : Nat) : Quiet (updateRequest entry countDelivered s) := fun idle => by
  have none := quiet idle
  refine List.filter_eq_nil_iff.mpr fun q mem => ?_
  obtain ⟨u, hu, rfl⟩ := List.mem_map.mp mem
  have notReady := List.filter_eq_nil_iff.mp none u hu
  split
  · exact notReady
  · exact notReady

theorem delivered_rest (p : Port) (i : Nat) (s : State) : AtRest ((delivered p i s).engines.get p) := release_at_rest p s

theorem delivered_free (at_i : bufferAt s i = some b) (p : Port) : bufferAt (delivered p i s) i = none :=
  (bufferAt_setBuffer (s := s.modifyEngine p Engine.release) (inside_of_at at_i) none i).trans (if_pos rfl)

/-- At the end of an event that delivered a buffer the buffer is FREE or claimed, and the engine has chosen. -/
theorem settle_delivered (at_i : bufferAt s i = some b) {u : State} (eased : Eased (delivered p i s) u) (one : OneServed s → OneServed u) :
    FreeOrClaimed (settle u) i ∧ (OneServed s → HasChosen (settle u) p) := by
  refine ⟨settle_freeOrClaimed ?_, fun h => settle_hasChosen_of_rest (one h) (eased.rest p (delivered_rest p i s))⟩
  rcases eased.buffers i with same | free
  · rw [same]
    exact delivered_free at_i p
  · exact free

end

theorem updateRequest_eased (i : Nat) (f : Request → Request) (s : State) : Eased s (updateRequest i f s) := eased_of_same rfl rfl

/-- Settles O53, by the state of the buffer and, at a delivery, of its request. -/
theorem burstsMoveTheBuffer : Obligations.BurstsMoveTheBuffer := by
  refine ⟨fun p words s i b moving running current at_i quiet => ?_, fun p words s moving withdrawn quiet => ?_⟩
  · have work := fun {t} => workOnly_of_next (t := t) (exec_burstEnd_workOnly p words s)
    obtain ⟨drains, loads⟩ := exec_burstEnd_of_buffer words moving running current at_i
    have inside := inside_of_at at_i
    refine ⟨fun moved data state short => ?_, fun data state short => ?_, fun data state last => ?_,
      fun data r a state found operation => ?_⟩
    · have next := drains moved data state
      rw [drainBurstEnd, if_neg (by simp only [Config.blockWords, Config.burstWords]; omega)] at next
      obtain ⟨requests, buffer, engine⟩ := settle_requestBus (p := p) (i := i) quiet current inside
        (x := { b with state := .draining (moved + Config.burstWords) data }) nofun
      exact ⟨_, next, work next, requests, buffer, engine⟩
    · have next := loads data state
      have length : (data ++ words.toList).length = data.length + 16 := by simp
      rw [loadBurstEnd, if_neg (by rw [length]; simp only [Config.blockWords]; omega)] at next
      obtain ⟨requests, buffer, engine⟩ := settle_requestBus (s := s.modifyEngine p fun e => { e with burstRegister := words.toList })
        (p := p) (i := i) (x := { b with state := .loading (data ++ words.toList) }) quiet
        (by rw [modifyEngine_own]; exact current) inside nofun
      exact ⟨_, next, work next, requests, buffer, engine⟩
    · have next := loads data state
      rw [loadBurstEnd_last last words.length_toList] at next
      have quiet' : Quiet (loaded p i b (data ++ words.toList) s) := quiet
      have path := settle_path_of_quiet quiet'
      refine ⟨_, next, work next, (settle_quiet quiet').requests, path.stays ?_ nofun, fun one => ?_⟩
      · exact (bufferAt_setBuffer inside _ i).trans (if_pos rfl)
      · exact settle_hasChosen_of_rest (s := loaded p i b (data ++ words.toList) s) (oneServed_of_frame one rfl rfl) (release_at_rest p _)
    · have next := drains 240 data state
      rw [drainBurstEnd_last] at next
      have found' : findRequest (delivered p i s) b.entry = some r := found
      have one' : OneServed s → OneServed (deliveryReport b.entry (delivered p i s)) := fun one =>
        (deliveryReport_path True b.entry _).oneServed trivial (oneServed_of_frame (t := delivered p i s) one rfl rfl)
      have quiet' := countDelivered_quiet (s := delivered p i s) quiet b.entry
      have counted := (settle_quiet quiet').requests
      refine ⟨fun stop state => ?_, fun status failing state => ?_⟩
      · rw [deliveryReport_of_active found' operation state] at next one'
        exact ⟨_, next, work next, counted, settle_delivered at_i (updateRequest_eased _ _ _) one'⟩
      · rw [deliveryReport_of_draining found' operation state] at next one'
        by_cases last : r.blocksDone + 1 = r.mediumCount
        · rw [if_pos last] at next one'
          have found'' := findRequest_update (f := countDelivered) (fun _ => rfl) found'
          refine ⟨_, next, work next, fun more => absurd last more.ne, fun _ => settle_heldWith found'' status failing, ?_⟩
          exact settle_delivered at_i (eased_trans (updateRequest_eased _ _ _) (enterHeld_eased _ _ _ _)) one'
        · rw [if_neg last] at next one'
          exact ⟨_, next, work next, fun _ => counted, fun isLast => absurd isLast last,
            settle_delivered at_i (updateRequest_eased _ _ _) one'⟩
  · have next := exec_burstEnd_of_withdrawn words moving withdrawn
    have quiet' : Quiet (s.modifyEngine p Engine.release) := quiet
    have only := settle_quiet quiet'
    have path := settle_path_of_quiet quiet'
    refine ⟨_, next, workOnly_of_next (exec_burstEnd_workOnly p words s) next, only.requests, only.pendingRecords, ?_,
      fun j x used => path.used used, fun j free => path.freeOrClaimed (.inl free), fun one => ?_⟩
    · rw [(path.kept p).withdrawn, modifyEngine_own]
      rfl
    · exact settle_hasChosen_of_rest (s := s.modifyEngine p Engine.release) (oneServed_of_frame one rfl rfl) (release_at_rest p s)

end Sys2Proof.Machine
end

section
/-! The host-bus timeout (R67, R70, R71, R116, R126, R133, R137). -/

namespace Sys2Proof.Machine

open Sys2Proof.Safety

/-! ### The engine gives up the entry -/

theorem giveUp_at_rest (entry : Nat) (e : Engine) : AtRest (e.giveUp entry) := by
  unfold Engine.giveUp
  dsimp only
  split
  · split <;> exact ⟨rfl, rfl⟩
  · exact ⟨rfl, rfl⟩

theorem giveUp_givenUp (entry : Nat) (e : Engine) : (e.giveUp entry).givenUp = some entry := rfl

theorem giveUp_prefetch {entry : Nat} {e : Engine} {f : Prefetch} (h : (e.giveUp entry).prefetch = some f) : f.entry ≠ entry := by
  unfold Engine.giveUp at h
  dsimp only at h
  split at h
  · next g prefetch =>
    split at h
    · cases h
    · next other =>
      rw [prefetch] at h
      cases h
      exact other
  · next none =>
    rw [none] at h
    cases h

/-- The state in which an engine has given up an entry, and its buffers but one serving the block in progress are freed. -/
def gaveUp (p : Port) (entry : Nat) (s : State) : State :=
  freeBuffers (fun x => decide (x.entry = entry) && !x.servesMedium) (s.modifyEngine p (Engine.giveUp entry))

theorem gaveUp_engine (p : Port) (entry : Nat) (s : State) :
    (gaveUp p entry s).engines.get p = (s.engines.get p).giveUp entry := by
  have own := modifyEngine_own p (Engine.giveUp entry) s
  rw [gaveUp, freeBuffers_at_rest (by rw [own]; exact (giveUp_at_rest _ _).2), own]

theorem gaveUp_rest (p : Port) (entry : Nat) (s : State) : AtRest ((gaveUp p entry s).engines.get p) := by
  rw [gaveUp_engine]
  exact giveUp_at_rest _ _

theorem gaveUp_givenUp (p : Port) (entry : Nat) (s : State) : ((gaveUp p entry s).engines.get p).givenUp = some entry := by
  rw [gaveUp_engine]
  rfl

theorem gaveUp_buffer {s : State} {j : Nat} {x : Buffer} (at_j : bufferAt s j = some x) (p : Port) :
    bufferAt (gaveUp p x.entry s) j = if x.servesMedium then some x else none := by
  have at_j' : bufferAt (s.modifyEngine p (Engine.giveUp x.entry)) j = some x := at_j
  rw [gaveUp, freeBuffers_buffer, at_j']
  cases serves : x.servesMedium <;> simp [serves, Option.filter]

theorem exec_hostBusTimeout_of_buffer {p : Port} {s : State} {i limit : Nat} {b : Buffer}
    (requesting : (s.engines.get p).state = .requesting) (timer : (s.engines.get p).timer = some limit)
    (current : (s.engines.get p).current = some i) (at_i : bufferAt s i = some b) :
    exec (.hostBusTimeout p) s = .next (settle (timeoutReport b.entry (gaveUp p b.entry s))) := by
  have runs : (s.engines.get p).state = .requesting ∧ (s.engines.get p).timer.isSome = true := ⟨requesting, by rw [timer]; rfl⟩
  simp only [exec, execHostBusTimeout]
  rw [if_pos runs, current, Option.bind_some, at_i]
  rfl

/-! ### A stop taken at once -/

theorem endOnMedium_of_stop {s : State} {v : Service} {r : Request} {stop : Status} (service : s.sequencer.service = some v)
    (found : findRequest s v.entry = some r) (state : r.state = .active (some stop)) (next : SequencerState) :
    endOnMedium .stopped next s = makeWriteReport (raisedEntry (MediumEnd.stopped.retries v) r) v (enterHeld r.index stop none
      (raiseRetries v.entry (MediumEnd.stopped.retries v) (closeService v next s))) := by
  have state' : (raisedEntry (MediumEnd.stopped.retries v) r).state = .active (some stop) := state
  rw [endOnMedium_eq service found]
  simp only [applyEnd, state']
  rfl

theorem makeWriteReport_work (r : Request) (v : Service) (s : State) :
    (makeWriteReport r v s).buffers = s.buffers ∧ (makeWriteReport r v s).engines = s.engines := by
  unfold makeWriteReport
  split
  · exact ⟨rfl, rfl⟩
  · split <;> exact ⟨rfl, rfl⟩

theorem closeService_givenUp (v : Service) (next : SequencerState) (s : State) (p : Port) :
    ((closeService v next s).engines.get p).givenUp = (s.engines.get p).givenUp := freeBuffers_givenUp _ s p

/-- A request whose stop is taken keeps no buffer, and the engine that gave it up forgets it. -/
theorem endOnMedium_forgets {s : State} {v : Service} {r : Request} {stop : Status} (service : s.sequencer.service = some v)
    (found : findRequest s v.entry = some r) (state : r.state = .active (some stop)) (next : SequencerState) :
    NoneBound v.entry (endOnMedium .stopped next s) ∧
      ∀ p, (s.engines.get p).givenUp = some v.entry → ((endOnMedium .stopped next s).engines.get p).givenUp = none := by
  have index : r.index = v.entry := (findRequest_some found).2
  have closed := findRequest_raised found rfl (MediumEnd.stopped.retries v) next
  have given : ∀ p, ((raiseRetries v.entry (MediumEnd.stopped.retries v) (closeService v next s)).engines.get p).givenUp =
      (s.engines.get p).givenUp := closeService_givenUp v next s
  obtain ⟨buffers, engines⟩ := makeWriteReport_work (raisedEntry (MediumEnd.stopped.retries v) r) v
    (enterHeld v.entry stop none (raiseRetries v.entry (MediumEnd.stopped.retries v) (closeService v next s)))
  rw [endOnMedium_of_stop service found state, index, NoneBound, engines, buffers]
  exact ⟨enterHeld_noneBound closed stop none, fun p h => enterHeld_givenUp closed stop none ((given p).trans h)⟩

theorem askStop_atOnce_forgets {s : State} {v : Service} {r : Request} (found : findRequest s v.entry = some r)
    (state : r.state = .active none) (service : s.sequencer.service = some v) (atOnce : stopsAtOnce s = true) (reason : Status) :
    Eased s (askStop v.entry reason s) ∧ NoneBound v.entry (askStop v.entry reason s) ∧
      ∀ p, (s.engines.get p).givenUp = some v.entry → ((askStop v.entry reason s).engines.get p).givenUp = none := by
  obtain ⟨sequencer, drive, _, _⟩ := markStop_frame service v.entry reason
  have atOnce' : stopsAtOnce (markStop v.entry reason s) = true := by
    rw [stopsAtOnce_congr (by rw [sequencer]) drive]
    exact atOnce
  have service' : (markStop v.entry reason s).sequencer.service = some { v with stopAsked := true } := by rw [sequencer]
  have marked : Eased s (markStop v.entry reason s) := eased_of_same rfl rfl
  rw [askStop_of_active found state, takeStop_of_atOnce atOnce']
  exact ⟨eased_trans marked (endOnMedium_eased _ _ _), endOnMedium_forgets service' (findRequest_markStop found reason) rfl .idle⟩

/-! ### The timeout -/

/-- What the timeout leaves of a request that it ends: nothing but its record. -/
theorem settle_gaveUp {p : Port} {s u : State} {r : Request} {n : Nat} {entry : Nat} (index : r.index = entry)
    (held : HeldWith (settle u) r .hostBusTimeout none n) (eased : Eased (gaveUp p entry s) u) (one : OneServed s → OneServed u)
    (none : NoneBound entry u) (givenUp : (u.engines.get p).givenUp = .none) :
    HeldWith (settle u) r .hostBusTimeout .none n ∧ ((settle u).engines.get p).givenUp = .none ∧
      (OneServed s → (∀ x, some x ∈ (settle u).buffers → x.entry ≠ entry) ∧ HasChosen (settle u) p) := by
  subst index
  exact ⟨held, settle_givenUp givenUp, fun h => ⟨settle_noneBound (one h) held none,
    settle_hasChosen_of_rest (one h) (eased.rest p (gaveUp_rest p r.index s))⟩⟩

/-- What the timeout leaves of a request whose stop waits for its block boundary. -/
theorem settle_gaveUp_pending {p : Port} {s u : State} {entry : Nat} (quiet : Quiet u) (buffers : u.buffers = (gaveUp p entry s).buffers)
    (engines : u.engines = (gaveUp p entry s).engines) (one : OneServed s → OneServed u) :
    ((settle u).engines.get p).givenUp = some entry ∧ (∀ f, ((settle u).engines.get p).prefetch = some f → f.entry ≠ entry) ∧
      (∀ j x, bufferAt s j = some x → x.entry = entry →
        if x.servesMedium then bufferAt (settle u) j = some x else FreeOrClaimed (settle u) j) ∧
      (OneServed s → HasChosen (settle u) p) := by
  have path := settle_path_of_quiet quiet
  have engine : u.engines.get p = (s.engines.get p).giveUp entry := by rw [engines, gaveUp_engine]
  refine ⟨?_, fun f prefetch => ?_, fun j x at_j own => ?_, fun h => settle_hasChosen_of_rest (one h) ?_⟩
  · rw [(path.kept p).givenUp, engine, giveUp_givenUp]
  · have kept := (path.kept p).prefetch
    rw [prefetch, engine] at kept
    obtain ⟨g, prefetch', same⟩ := Option.map_eq_some_iff.mp kept.symm
    rw [← same]
    exact giveUp_prefetch prefetch'
  · subst own
    have after := gaveUp_buffer at_j p
    rw [← bufferAt_congr buffers] at after
    split at after
    · next serves =>
      rw [if_pos serves]
      exact path.stays after fun data full => by
        rw [Buffer.servesMedium, full] at serves
        cases serves
    · next idle =>
      rw [if_neg idle]
      exact path.freeOrClaimed (.inl after)
  · rw [engine]
    exact giveUp_at_rest _ _

theorem askStop_of_pending {s : State} {v : Service} {i : Nat} {r : Request} (found : findRequest s i = some r)
    (state : r.state = .active none) (service : s.sequencer.service = some v) (pending : stopsAtOnce s = false) (reason : Status) :
    askStop i reason s = markStop i reason s := by
  obtain ⟨sequencer, drive, _, _⟩ := markStop_frame service i reason
  rw [askStop_of_active found state, takeStop_of_pending]
  rw [stopsAtOnce_congr (by rw [sequencer]) drive]
  exact pending

theorem timeoutReport_of_active {s : State} {entry : Nat} {r : Request} (found : findRequest s entry = some r)
    (state : r.state = .active none) : timeoutReport entry s = askStop entry .hostBusTimeout s := by
  simp only [timeoutReport, found, state]

theorem timeoutReport_of_draining {s : State} {entry : Nat} {r : Request} {status : Status} {failing : Option Nat}
    (found : findRequest s entry = some r) (state : r.state = .draining status failing) :
    timeoutReport entry s = enterHeld entry .hostBusTimeout none s := by
  simp only [timeoutReport, found, state]

/-- Settles O54, by the state of the request and of the sequencer. -/
theorem hostBusTimeoutGivesUp : Obligations.HostBusTimeoutGivesUp := by
  intro p s i limit b r requesting timer current at_i found
  have next := exec_hostBusTimeout_of_buffer requesting timer current at_i
  have work := fun {t} => workOnly_of_next (t := t) (exec_hostBusTimeout_workOnly p s)
  have found' : findRequest (gaveUp p b.entry s) b.entry = some r := found
  have index : r.index = b.entry := (findRequest_some found).2
  have given := gaveUp_givenUp p b.entry s
  have one : OneServed s → OneServed (timeoutReport b.entry (gaveUp p b.entry s)) := fun h =>
    (timeoutReport_path True b.entry _).oneServed trivial (oneServed_of_frame (t := gaveUp p b.entry s) h rfl rfl)
  refine ⟨fun status failing state => ?_, fun v _ state service entry stops => ?_, fun v state service waits => ?_⟩
  · rw [timeoutReport_of_draining found' state] at next one
    exact ⟨_, next, work next, settle_gaveUp index (settle_heldWith found' _ _) (enterHeld_eased _ _ _ _) one
      (enterHeld_noneBound found' _ _) (enterHeld_givenUp found' _ _ given)⟩
  · rw [timeoutReport_of_active found' state] at next one
    have atOnce : stopsAtOnce (gaveUp p b.entry s) = true := by
      show stopsAtOnce s = true
      unfold stopsAtOnce
      rcases stops with state | state <;> rw [state]
    rw [← entry] at found' given next one index ⊢
    obtain ⟨eased, none, forgets⟩ := askStop_atOnce_forgets found' state service atOnce .hostBusTimeout
    exact ⟨_, next, work next, settle_gaveUp index (settle_askStop_atOnce found' state service atOnce _) eased one none (forgets p given)⟩
  · rw [timeoutReport_of_active found' state] at next one
    obtain ⟨pending, notIdle⟩ : stopsAtOnce (gaveUp p b.entry s) = false ∧ s.sequencer.state ≠ .idle :=
      notIdle_of_service_pending (waits.imp_right .inl)
    obtain ⟨requests, sequencer⟩ := settle_askStop_pending found' state service pending notIdle .hostBusTimeout
    have marked := askStop_of_pending found' state service pending .hostBusTimeout
    have quiet : Quiet (markStop b.entry .hostBusTimeout (gaveUp p b.entry s)) :=
      quiet_of_state (congrArg Sequencer.state (markStop_frame (s := gaveUp p b.entry s) service b.entry .hostBusTimeout).1) notIdle
    rw [marked] at next one requests sequencer
    exact ⟨_, next, work next, requests, sequencer, settle_gaveUp_pending quiet rfl rfl one⟩

end Sys2Proof.Machine
end

section
/-! The hand-over of a chosen request, and the claims and choices that follow it (R81, R89, R90, R100, R118, R125, R127, R130, R133). -/

namespace Sys2Proof.Machine

open Sys2Proof.Safety

/-! ### The sweep turned -/

theorem makeWriteReport_sweep (r : Request) (v : Service) (s : State) : (makeWriteReport r v s).sweep = s.sweep := by
  unfold makeWriteReport
  split
  · rfl
  · split <;> rfl

theorem endActive_sweep (r : Request) (v : Service) (status : Status) (failing : Option Nat) (s : State) :
    (endActive r v status failing s).sweep = s.sweep := by
  rcases endActive_cases r v status failing s with ⟨_, _, result⟩ | ⟨_, result⟩ <;> rw [result]
  · rfl
  · rw [makeWriteReport_sweep]
    exact (enterHeld_frame r.index status failing s).sweep

theorem applyEnd_sweep (r : Request) (v : Service) (e : MediumEnd) (s : State) : (applyEnd r v e s).sweep = s.sweep := by
  unfold applyEnd
  split
  · exact (freeRequest_frame _ s).sweep
  · rw [makeWriteReport_sweep]
    exact (enterHeld_frame _ _ _ s).sweep
  · split
    · exact endActive_sweep _ _ _ _ s
    · exact endActive_sweep _ _ _ _ s
    · rfl
  · rfl

theorem endOnMedium_sweep (e : MediumEnd) (next : SequencerState) (s : State) : (endOnMedium e next s).sweep = s.sweep := by
  unfold endOnMedium
  split
  · rfl
  · dsimp only
    split
    · rfl
    · exact applyEnd_sweep _ _ _ _

theorem handOver_sweep (r : Request) (s : State) : (handOver r s).sweep = sweepAfter s.sweep (s.sequencer.believed.getD 0) r.cylinder := by
  obtain ⟨_, _, _, _, sweep, _⟩ := handedOver_frame r s
  by_cases isProtected : protectedFormat r s
  · rw [handOver_of_protected isProtected, failOnMedium, endOnMedium_sweep]
    exact sweep
  · rw [handOver_of_starts isProtected]
    exact sweep

/-! ### The prefetch begun -/

theorem handedOver_engines_of_write {r : Request} {a : Nat} (operation : r.operation = .write a) (s : State) :
    (handedOver r s).engines = s.engines.set r.port { s.engines.get r.port with prefetch := some ⟨r.index, r.first⟩ } := by
  show (startPrefetch r _).engines = _
  simp only [startPrefetch, operation]
  rfl

theorem handedOver_engines_of_other {r : Request} (other : ∀ a, r.operation ≠ .write a) (s : State) :
    (handedOver r s).engines = s.engines := by
  show (startPrefetch r _).engines = _
  unfold startPrefetch
  split
  · next a operation => exact absurd operation (other a)
  · rfl

/-- A FORMAT TRACK that WRITE PROTECT ends at its hand-over. -/
theorem handOver_protected_held {r : Request} {s : State} (isProtected : protectedFormat r s) (distinct : EntriesDistinct s)
    (mem : r ∈ s.requests) : HeldWith (handOver r s) r .writeProtected (some r.first) 0 ∧ (handOver r s).writeReports = s.writeReports ∧
      (handOver r s).sequencer = closedSequencer .idle { s.sequencer with head := headOf r.first } := by
  have found := findRequest_sampled (findRequest_of_mem distinct mem)
  have service : (sampled r s).sequencer.service = some (.start r) := rfl
  have result : handOver r s = endOnMedium (.failed .writeProtected (some r.first)) .idle (sampled r s) := handOver_of_protected isProtected
  have ended := (endOnMedium_endedAs (e := .failed .writeProtected (some r.first)) service found rfl (fun _ => nofun) .idle).1
  have reports := endOnMedium_reports (e := .failed .writeProtected (some r.first)) service found rfl (fun _ => nofun) .idle
  obtain ⟨defects, fill, operation⟩ := (isFormat_iff _).mp isProtected.1
  rw [EndedAs, if_neg (by rw [operation]; exact fun h => Bool.false_ne_true h.1)] at ended
  rw [makeWriteReport_of_unwritten rfl, ite_self] at reports
  obtain ⟨_, unreported, _, _, _, sequencer⟩ := handedOver_frame r s
  have closed : closedSequencer .idle (sampled r s).sequencer = closedSequencer .idle { s.sequencer with head := headOf r.first } := by
    show closedSequencer .idle { (handedOver r s).sequencer with state := .formatting, head := _, service := _ } = _
    rw [sequencer]
    rfl
  rw [result]
  exact ⟨ended, reports.trans unreported, (endOnMedium_frame service _ .idle).1.trans closed⟩

/-! ### The claims of a WRITE's prefetch -/

/-- The engine of the request's port has claimed a LOADING buffer for each block from the first up to prefetch next. -/
def Prefetched (r : Request) (t : State) : Prop :=
  ∃ claimed, (t.engines.get r.port).prefetch = some ⟨r.index, r.first + claimed⟩ ∧ claimed ≤ (boundBuffers t r.index).length ∧ claimed ≤ 3 ∧
    ∀ k, k < claimed → ∃ i, bufferAt t i = some ⟨r.index, r.first + k, .loading []⟩

theorem EngineStep.prefetched {s t : State} (h : EngineStep s t) {r : Request} (before : Prefetched r s) : Prefetched r t := by
  obtain ⟨n, prefetch, bound, few, loading⟩ := before
  have stays : ∀ k, k < n → ∃ i, bufferAt t i = some ⟨r.index, r.first + k, .loading []⟩ := fun k less => by
    obtain ⟨i, at_i⟩ := loading k less
    exact ⟨i, EnginePath.stays (.single h) at_i nofun⟩
  have bound' : n ≤ (boundBuffers t r.index).length := Nat.le_trans bound (h.bound_le r.index)
  have same : (t.engines.get r.port).prefetch = (s.engines.get r.port).prefetch → Prefetched r t := fun same =>
    ⟨n, same.trans prefetch, bound', few, stays⟩
  cases h with
  | @waits p f _ _ _ =>
    refine same ?_
    rw [waitingFor_engine]
    split
    · next own => rw [own]
    · rfl
  | @claims p f i prefetch' may free =>
    by_cases own : r.port = p
    · subst own
      obtain rfl : f = ⟨r.index, r.first + n⟩ := Option.some.inj (prefetch'.symm.trans prefetch)
      obtain ⟨_, _, _, _, _, fewer⟩ := mayClaim_iff.mp may
      have fewer : (boundBuffers s r.index).length < 3 := fewer
      have count := bound_claimed free r.port ⟨r.index, r.first + n⟩ r.index
      rw [if_pos rfl] at count
      refine ⟨n + 1, ?_, by omega, by omega, fun k less => ?_⟩
      · rw [claimed_engine, if_pos rfl]
        rfl
      · by_cases last : k = n
        · exact ⟨i, by rw [claimed_buffer free, if_pos rfl, last]⟩
        · exact stays k (by omega)
    · refine same ?_
      rw [claimed_engine, if_neg own]
  | @takes p i b _ _ _ =>
    refine same ?_
    rw [took_engine]
    split
    · next own => rw [own]
    · rfl

theorem EnginePath.prefetched {s t : State} (h : EnginePath s t) {r : Request} (before : Prefetched r s) : Prefetched r t := by
  induction h with
  | refl => exact before
  | tail _ step ih => exact step.prefetched ih

/-- Settles O51: the hand-over, and what the engines make of a WRITE in the same event. -/
theorem handOverStartsTheRequest : Obligations.HandOverStartsTheRequest := by
  refine ⟨fun s r current believed => ?_, fun s r current one idle believed mem writes => ?_⟩
  · have here : s.sequencer.believed.getD 0 = current := by rw [believed]; rfl
    obtain ⟨drive, _, _, buffers, _, _⟩ := handedOver_frame r s
    refine ⟨by rw [handOver_sweep, here]; rfl, handOver_workOnly r s, fun free => ?_, fun distinct mem format own asserted => ?_⟩
    · have starts : ¬ protectedFormat r s := fun ⟨format, own, asserted⟩ => by
        rw [here] at own
        rcases free with free | free | free
        · exact absurd (format.symm.trans free) nofun
        · exact free own
        · exact absurd (asserted.symm.trans free) nofun
      rw [handOver_of_starts starts]
      refine ⟨handedOver_requests r s, ?_, ?_, buffers, drive⟩
      · show startedSequencer r s.sequencer = _
        unfold startedSequencer
        rw [here]
        rfl
      · split
        · next a operation => exact handedOver_engines_of_write operation s
        · next other => exact handedOver_engines_of_other other s
    · obtain ⟨held, reports, sequencer⟩ := handOver_protected_held ⟨format, own.trans here.symm, asserted⟩ distinct mem
      exact ⟨held, reports, sequencer⟩
  · obtain ⟨a, operation⟩ := writes
    have starts : ¬ protectedFormat r s := fun ⟨format, _⟩ => by
      rw [operation] at format
      cases format
    have one' := handOver_oneServed one idle mem
    have quiet : Quiet (handOver r s) := quiet_of_serving (handOver_state starts)
    have engine : (handOver r s).engines.get r.port = { s.engines.get r.port with prefetch := some ⟨r.index, r.first⟩ } := by
      rw [handOver_of_starts starts]
      show (handedOver r s).engines.get r.port = _
      rw [handedOver_engines_of_write operation]
      exact PortMap.get_set_same _ _ _
    have begun : Prefetched r (handOver r s) := ⟨0, by rw [engine]; rfl, Nat.zero_le _, Nat.zero_le _, fun k less => absurd less (Nat.not_lt_zero k)⟩
    obtain ⟨n, prefetch, _, few, loading⟩ := (settle_path_of_quiet quiet).prefetched begun
    refine ⟨settle_enginesSettled one', ⟨n, prefetch, few, loading⟩, fun current _ => ?_⟩
    rw [settle_of_quiet quiet]
    refine (engineRound_chose one' r.port).symm.imp_left fun ⟨_, same⟩ => same.trans ?_
    rw [engine]
    exact current

end Sys2Proof.Machine
end
